-- ==== Sys2Proof/Word.lean ====
section
/-! DEFINITION. The words of the management line and the index types of ports, banks, engines and trace slots.
Port p of the spec (1 to 48) is index p - 1, and likewise for banks, engines and slots (00_scope.md, Numbering). -/

namespace Sys2Proof

/-- One character of the management line, 8 data bits (R176). -/
abbrev Byte := BitVec 8

/-- A 16-bit number of the management line (R194). -/
abbrev Word := BitVec 16

/-- One of the 48 ports. -/
abbrev PortId := Fin 48

/-- One of the six banks. -/
abbrev BankId := Fin 6

/-- One of the four probe engines, PE1 first. -/
abbrev EngineId := Fin 4

/-- One of the eight trace slots. -/
abbrev SlotId := Fin 8

/-- A set of speed classes: bit 0 S100 up to bit 4 S10G (R195). -/
abbrev SpeedSet := BitVec 5

/-- A set of event kinds: bit 0 LINK_UP up to bit 8 TEST_DONE (R195). -/
abbrev KindSet := BitVec 9

/-- A set of condition word fields: bit 0 LINK up to bit 8 TESTING (R195). -/
abbrev FieldSet := BitVec 9

/-- A raw sample of a receiver, a signed value of -2048 to 2047 (R104, R108), as a 12-bit two's complement word. -/
abbrev Sample := BitVec 12

end Sys2Proof
end

