-- ==== Sys2Proof/Syntax.lean ====
section
/-! DEFINITION. The commands of the part: one constructor of `Instr` per row of spec/opcode_table.json, with the
data they carry. Requests carry the bytes of their bodies (R197), so that an undefined code can be written
(entry 2). -/

namespace Sys2Proof

/-- The five speed classes, in ascending order. -/
inductive Speed where
  | s100 | s1g | s2g5 | s5g | s10g
deriving DecidableEq, Repr

/-- The clock role of a port on its link. -/
inductive Role where
  | lead | follow
deriving DecidableEq, Repr

/-- The role class of an offer word (R20). -/
inductive RoleClass where
  | forceLead | forceFollow | preferLead | preferFollow
deriving DecidableEq, Repr

/-- The pair map of a training converged arrival (R28). -/
inductive PairMap where
  | straight | swapAB | swapCD | swapBoth
deriving DecidableEq, Repr

/-- The four cable pairs, always taken in this order. -/
inductive Pair where
  | a | b | c | d
deriving DecidableEq, Repr

/-- One item for each of the four pairs. -/
structure Quad (α : Type) where
  a : α
  b : α
  c : α
  d : α
deriving DecidableEq, Repr

/-- An offer word: the fields of a partner word of kind OFFER, which the own offer word has too (section 1.4, R8). -/
structure OfferWord where
  speeds : SpeedSet
  roleClass : RoleClass
  seed : BitVec 10
  hasPages : Bool
  heard : Bool
deriving DecidableEq, Repr

/-- The fields of a partner word of kind PAGE (section 1.4). `ack` is none for NONE. -/
structure PageWord where
  tag : Byte
  data : BitVec 24
  more : Bool
  parity : Bool
  ack : Option Bool
deriving DecidableEq, Repr

/-- One word received from the partner. -/
inductive PartnerWord where
  | offer (w : OfferWord)
  | page (w : PageWord)
deriving DecidableEq, Repr

/-- An extension page: a tag and a 24-bit data value (R11). -/
structure Page where
  tag : Byte
  data : BitVec 24
deriving DecidableEq, Repr

/-- The profile record as its 36 bytes carry it (R199), before any check or clamp. -/
structure RawProfile where
  linkMode : Byte
  allowedSpeeds : Byte
  forcedSpeed : Byte
  roleClass : Byte
  downshiftAfter : Byte
  holdoffMs : Word
  exchangeMs : Word
  marginAlarm : Byte
  marginHyst : Byte
  marginDrop : Byte
  velocity : Word
  lossSlope : Byte
  detectLevel : Word
  hardLevel : Word
  crossLevel : Word
  noiseLimit : Word
  reportEnables : Word
  autoTriggers : Word
  autoPriority : Byte
  autoReach : Byte
  autoAvg : Byte
  autoCapture : Byte
  holdReports : Byte
  recheckS : Word
  recheckMode : Byte
  recheckPriority : Byte
deriving DecidableEq, Repr

/-- A request that has passed the checks of kind and length (R186), with the fields of its body as sent (R197). -/
inductive Request where
  | identify
  | restart (mode : Byte)
  | setProfile (first last : Byte) (rec : RawProfile)
  | getProfile (port : Byte)
  | setAdmin (port action : Byte)
  | portRestart (port : Byte)
  | getPort (port : Byte)
  | clearFlags (port : Byte) (kinds : Word)
  | setWatch (port : Byte) (expectation mask : Word)
  | clearCounters (port : Byte)
  | loadPages (port : Byte) (pages : List Page)
  | clearPages (port : Byte)
  | getPartnerPages (port : Byte)
  | startTest (port reach avg capture priority allowDrop : Byte)
  | cancelTest (selector : Byte) (value : Word)
  | getQueue (first : Byte)
  | restoreEngine (engine : Byte)
  | getResult (port : Byte)
  | readTrace (slot pair : Byte) (first count : Word)
  | releaseTrace (slot : Byte)
  | fetchReports
  | getSummary
deriving DecidableEq, Repr

/-- The commands, one per row of the table. The 22 requests carry the TAG the host chose (R177). Arrivals and port
timers carry their port, engine events their engine, the aging clock its record's test number. -/
inductive Instr where
  | identify (tag : Byte)
  | restart (tag mode : Byte)
  | setProfile (tag first last : Byte) (rec : RawProfile)
  | getProfile (tag port : Byte)
  | setAdmin (tag port action : Byte)
  | portRestart (tag port : Byte)
  | getPort (tag port : Byte)
  | clearFlags (tag port : Byte) (kinds : Word)
  | setWatch (tag port : Byte) (expectation mask : Word)
  | clearCounters (tag port : Byte)
  | loadPages (tag port : Byte) (pages : List Page)
  | clearPages (tag port : Byte)
  | getPartnerPages (tag port : Byte)
  | startTest (tag port reach avg capture priority allowDrop : Byte)
  | cancelTest (tag selector : Byte) (value : Word)
  | getQueue (tag first : Byte)
  | restoreEngine (tag engine : Byte)
  | getResult (tag port : Byte)
  | readTrace (tag slot pair : Byte) (first count : Word)
  | releaseTrace (tag slot : Byte)
  | fetchReports (tag : Byte)
  | getSummary (tag : Byte)
  | energyPresent (p : PortId)
  | energyAbsent (p : PortId)
  | partnerWord (p : PortId) (w : PartnerWord)
  | trainingConverged (p : PortId) (margin : Byte) (map : PairMap) (polarity : BitVec 4)
  | trainingFailed (p : PortId)
  | marginSample (p : PortId) (x : Byte)
  | signalLost (p : PortId)
  | exchangeTimerExpiry (p : PortId)
  | trainingTimerExpiry (p : PortId)
  | holdoffWaitEnd (p : PortId)
  | energyAbsenceTimerExpiry (p : PortId)
  | recheckTimerExpiry (p : PortId)
  | agingClockExpiry (number : Nat)
  | busCheckPass (e : EngineId)
  | busCheckFail (e : EngineId)
  | listenAttemptEnd (e : EngineId) (samples : Quad (List Sample))
  | listenWaitEnd (e : EngineId)
  | launchCaptured (e : EngineId) (capture : Quad (List Sample))
  | analysisDone (e : EngineId)
  | releaseEnd (e : EngineId)
  | mrxCharacter (c : Byte) (framingError : Bool)
  | gapTimerExpiry
  | replySent
  | powerOn
  | resetAssert
  | resetRelease
deriving DecidableEq, Repr

end Sys2Proof
end

