-- ==== Sys2Proof/Decode.lean ====
section
/-! DEFINITION. The bytes of the management line: byte order, CRC, request kinds and bodies, read and written
(R178, R194, R195, R197 to R200), and the table's own decoder, for whose rows the table gives no bits. -/

namespace Sys2Proof

/-! ### Byte order (R194: high byte first) -/

/-- The high byte of a 16-bit number. -/
def hiByte (w : Word) : Byte := w.extractLsb' 8 8

/-- The low byte of a 16-bit number. -/
def loByte (w : Word) : Byte := w.extractLsb' 0 8

/-- The 16-bit number of two bytes, high byte first. -/
def word16 (hi lo : Byte) : Word := hi ++ lo

/-- A 16-bit number as it is sent. -/
def bytes16 (w : Word) : List Byte := [hiByte w, loByte w]

/-- A 24-bit page data value of three bytes, high byte first. -/
def word24 (b2 b1 b0 : Byte) : BitVec 24 := b2 ++ b1 ++ b0

/-- A 24-bit page data value as it is sent. -/
def bytes24 (w : BitVec 24) : List Byte := [w.extractLsb' 16 8, w.extractLsb' 8 8, w.extractLsb' 0 8]

/-- A number as one byte. -/
def byteOf (n : Nat) : Byte := BitVec.ofNat 8 n

/-- A number as two bytes. -/
def bytesOf16 (n : Nat) : List Byte := bytes16 (BitVec.ofNat 16 n)

/-- A signed 16-bit number in two's complement (R194). -/
def bytesOfInt (x : Int) : List Byte := bytes16 (BitVec.ofInt 16 x)

/-- A yes/no field or flag (R195: 0 no, 1 yes). -/
def byteOfBool (b : Bool) : Byte := if b then 1 else 0

/-! ### The codes of enumerated fields that requests carry (R195) -/

/-- The place of a speed class in a speed set. -/
def Speed.idx : Speed → Nat
  | .s100 => 0 | .s1g => 1 | .s2g5 => 2 | .s5g => 3 | .s10g => 4

/-- The speed class code: 1 to 5, 0 being NONE of the condition word. -/
def Speed.code (x : Speed) : Nat := x.idx + 1

/-- A speed class code; 0 and 6 upward name no class. -/
def Speed.ofCode : Nat → Option Speed
  | 1 => some .s100 | 2 => some .s1g | 3 => some .s2g5 | 4 => some .s5g | 5 => some .s10g | _ => none

/-- The role code: 1 LEAD, 2 FOLLOW, 0 being NONE of the condition word. -/
def Role.code : Role → Nat
  | .lead => 1 | .follow => 2

/-- The role class code. -/
def RoleClass.code : RoleClass → Nat
  | .forceLead => 0 | .forceFollow => 1 | .preferLead => 2 | .preferFollow => 3

/-- A role class code. -/
def RoleClass.ofCode : Nat → Option RoleClass
  | 0 => some .forceLead | 1 => some .forceFollow | 2 => some .preferLead | 3 => some .preferFollow | _ => none

/-- The pair map code. -/
def PairMap.code : PairMap → Nat
  | .straight => 0 | .swapAB => 1 | .swapCD => 2 | .swapBoth => 3

/-- The pair map of a 2-bit code. -/
def PairMap.ofCode : Nat → PairMap
  | 0 => .straight | 1 => .swapAB | 2 => .swapCD | _ => .swapBoth

/-- The pair code. -/
def Pair.code : Pair → Nat
  | .a => 0 | .b => 1 | .c => 2 | .d => 3

/-- A pair code. -/
def Pair.ofCode : Nat → Option Pair
  | 0 => some .a | 1 => some .b | 2 => some .c | 3 => some .d | _ => none

/-- A yes/no code. -/
def boolOfCode : Nat → Option Bool
  | 0 => some false | 1 => some true | _ => none

/-! ### CRC (R178) -/

/-- One data bit: the bit leaving the top is compared with the data bit, and 1021h enters if they differ. -/
def crcBit (r : Word) (b : Bool) : Word :=
  if (r.getLsbD 15 != b) = true then (r <<< 1) ^^^ 0x1021#16 else r <<< 1

/-- One byte, most significant bit first. -/
def crcByte (r : Word) (x : Byte) : Word :=
  [7, 6, 5, 4, 3, 2, 1, 0].foldl (fun r i => crcBit r (x.getLsbD i)) r

/-- The CRC over a run of bytes, the register loaded with FFFFh. -/
def crc16 (bytes : List Byte) : Word := bytes.foldl crcByte 0xFFFF#16

/-! ### The levels of a character (R176): low is false -/

/-- The ten levels of a character: a low start bit, 8 data bits with the least significant first, a high stop bit. -/
def characterLevels (c : Byte) : List Bool :=
  [false, c.getLsbD 0, c.getLsbD 1, c.getLsbD 2, c.getLsbD 3, c.getLsbD 4, c.getLsbD 5, c.getLsbD 6, c.getLsbD 7, true]

/-- The character that ten levels spell, with its framing error: a stop bit sampled low. Every character begins with a
low start bit. -/
def characterOf : List Bool → Option (Byte × Bool)
  | [false, b0, b1, b2, b3, b4, b5, b6, b7, stop] =>
    some ([b7, b6, b5, b4, b3, b2, b1, b0].foldl (fun x b => x <<< 1 ||| (BitVec.ofBool b).setWidth 8) 0#8, !stop)
  | _ => none

/-! ### Request kinds and bodies (R197) -/

/-- The kind code of a request. -/
def Request.kind : Request → Byte
  | .identify => 0x01 | .restart _ => 0x02 | .setProfile _ _ _ => 0x03 | .getProfile _ => 0x04
  | .setAdmin _ _ => 0x05 | .portRestart _ => 0x06 | .getPort _ => 0x07 | .clearFlags _ _ => 0x08
  | .setWatch _ _ _ => 0x09 | .clearCounters _ => 0x0A | .loadPages _ _ => 0x0B | .clearPages _ => 0x0C
  | .getPartnerPages _ => 0x0D | .startTest _ _ _ _ _ _ => 0x0E | .cancelTest _ _ => 0x0F | .getQueue _ => 0x10
  | .restoreEngine _ => 0x11 | .getResult _ => 0x12 | .readTrace _ _ _ _ => 0x13 | .releaseTrace _ => 0x14
  | .fetchReports => 0x15 | .getSummary => 0x16

/-- The 36 bytes of a profile record (R199). -/
def RawProfile.bytes (r : RawProfile) : List Byte :=
  [r.linkMode, r.allowedSpeeds, r.forcedSpeed, r.roleClass, r.downshiftAfter] ++ bytes16 r.holdoffMs ++
    bytes16 r.exchangeMs ++ [r.marginAlarm, r.marginHyst, r.marginDrop] ++ bytes16 r.velocity ++ [r.lossSlope] ++
    bytes16 r.detectLevel ++ bytes16 r.hardLevel ++ bytes16 r.crossLevel ++ bytes16 r.noiseLimit ++
    bytes16 r.reportEnables ++ bytes16 r.autoTriggers ++
    [r.autoPriority, r.autoReach, r.autoAvg, r.autoCapture, r.holdReports] ++ bytes16 r.recheckS ++
    [r.recheckMode, r.recheckPriority]

/-- The profile record of 36 bytes (R199); none for any other length. -/
def RawProfile.ofBytes : List Byte → Option RawProfile
  | p0 :: p1 :: p2 :: p3 :: p4 :: p5 :: p6 :: p7 :: p8 :: p9 :: p10 :: p11 :: p12 :: p13 :: p14 :: p15 :: p16 :: p17 ::
    p18 :: p19 :: p20 :: p21 :: p22 :: p23 :: p24 :: p25 :: p26 :: p27 :: p28 :: p29 :: p30 :: p31 :: p32 :: p33 :: p34 :: [p35] =>
    some { linkMode := p0, allowedSpeeds := p1, forcedSpeed := p2, roleClass := p3, downshiftAfter := p4,
           holdoffMs := word16 p5 p6, exchangeMs := word16 p7 p8, marginAlarm := p9, marginHyst := p10,
           marginDrop := p11, velocity := word16 p12 p13, lossSlope := p14, detectLevel := word16 p15 p16,
           hardLevel := word16 p17 p18, crossLevel := word16 p19 p20, noiseLimit := word16 p21 p22,
           reportEnables := word16 p23 p24, autoTriggers := word16 p25 p26, autoPriority := p27, autoReach := p28,
           autoAvg := p29, autoCapture := p30, holdReports := p31, recheckS := word16 p32 p33, recheckMode := p34,
           recheckPriority := p35 }
  | _ => none

/-- The four bytes of a page entry: tag and data (R197). -/
def Page.bytes (g : Page) : List Byte := g.tag :: bytes24 g.data

/-- The pages of a run of page entries; none if its length is no multiple of four. -/
def pagesOfBytes : List Byte → Option (List Page)
  | [] => some []
  | t :: d2 :: d1 :: d0 :: rest => (pagesOfBytes rest).map (fun gs => { tag := t, data := word24 d2 d1 d0 } :: gs)
  | _ => none

/-- The body of a request (R197, R199, R200). -/
def Request.body : Request → List Byte
  | .identify => []
  | .restart m => [m]
  | .setProfile f l r => f :: l :: r.bytes
  | .getProfile p => [p]
  | .setAdmin p a => [p, a]
  | .portRestart p => [p]
  | .getPort p => [p]
  | .clearFlags p k => p :: bytes16 k
  | .setWatch p e m => p :: (bytes16 e ++ bytes16 m)
  | .clearCounters p => [p]
  | .loadPages p gs => p :: byteOf gs.length :: gs.flatMap Page.bytes
  | .clearPages p => [p]
  | .getPartnerPages p => [p]
  | .startTest p r a c y d => [p, r, a, c, y, d]
  | .cancelTest x v => x :: bytes16 v
  | .getQueue f => [f]
  | .restoreEngine e => [e]
  | .getResult p => [p]
  | .readTrace t p f c => t :: p :: (bytes16 f ++ bytes16 c)
  | .releaseTrace t => [t]
  | .fetchReports => []
  | .getSummary => []

/-- What the MLI's own check of a frame finds (R186): an unknown kind, a wrong body length, or a request to hand on. -/
inductive Parsed where
  | unknownKind
  | badLength
  | request (r : Request)
deriving DecidableEq, Repr

/-- Read a body of exactly no bytes. -/
def read0 (r : Request) : List Byte → Parsed
  | [] => .request r
  | _ => .badLength

/-- Read a body of exactly one byte. -/
def read1 (f : Byte → Request) : List Byte → Parsed
  | [x] => .request (f x)
  | _ => .badLength

/-- Read a LOAD_PAGES body: its length is 2 + 4 × count, the count being its second byte (R198). -/
def readPages : List Byte → Parsed
  | p :: n :: rest =>
    match pagesOfBytes rest with
    | some gs => if gs.length = n.toNat then .request (.loadPages p gs) else .badLength
    | none => .badLength
  | _ => .badLength

/-- Read a SET_PROFILE body: first port, last port, profile record. -/
def readSetProfile : List Byte → Parsed
  | f :: l :: rest =>
    match RawProfile.ofBytes rest with
    | some r => .request (.setProfile f l r)
    | none => .badLength
  | _ => .badLength

/-- The checks of kind and body length that the MLI makes of a dispatched frame, in this order (R186, R198). -/
def parseRequest (kind : Byte) (body : List Byte) : Parsed :=
  match kind.toNat with
  | 0x01 => read0 .identify body
  | 0x02 => read1 .restart body
  | 0x03 => readSetProfile body
  | 0x04 => read1 .getProfile body
  | 0x05 => match body with
    | [p, a] => .request (.setAdmin p a)
    | _ => .badLength
  | 0x06 => read1 .portRestart body
  | 0x07 => read1 .getPort body
  | 0x08 => match body with
    | [p, k1, k0] => .request (.clearFlags p (word16 k1 k0))
    | _ => .badLength
  | 0x09 => match body with
    | [p, e1, e0, m1, m0] => .request (.setWatch p (word16 e1 e0) (word16 m1 m0))
    | _ => .badLength
  | 0x0A => read1 .clearCounters body
  | 0x0B => readPages body
  | 0x0C => read1 .clearPages body
  | 0x0D => read1 .getPartnerPages body
  | 0x0E => match body with
    | [p, r, a, c, y, d] => .request (.startTest p r a c y d)
    | _ => .badLength
  | 0x0F => match body with
    | [x, v1, v0] => .request (.cancelTest x (word16 v1 v0))
    | _ => .badLength
  | 0x10 => read1 .getQueue body
  | 0x11 => read1 .restoreEngine body
  | 0x12 => read1 .getResult body
  | 0x13 => match body with
    | [t, p, f1, f0, c1, c0] => .request (.readTrace t p (word16 f1 f0) (word16 c1 c0))
    | _ => .badLength
  | 0x14 => read1 .releaseTrace body
  | 0x15 => read0 .fetchReports body
  | 0x16 => read0 .getSummary body
  | _ => .unknownKind

/-! ### Frames (R177, R197) -/

/-- A request frame's bytes after SYNC and LEN: TAG, KIND and BODY. -/
structure Frame where
  tag : Byte
  kind : Byte
  body : List Byte
deriving DecidableEq, Repr

/-- The frame that carries a request. -/
def Request.frame (tag : Byte) (r : Request) : Frame := { tag, kind := r.kind, body := r.body }

/-- LEN, TAG, KIND and BODY of a request frame, the bytes its CRC covers (R178). -/
def Frame.covered (f : Frame) : List Byte := byteOf (f.body.length + 2) :: f.tag :: f.kind :: f.body

/-- Every character of a request frame, SYNC and CRC included. -/
def Frame.bytes (f : Frame) : List Byte := 0xA5#8 :: (f.covered ++ bytes16 (crc16 f.covered))

/-- The frame of a receiver's bytes after LEN. -/
def frameOf : List Byte → Option Frame
  | tag :: kind :: body => some { tag, kind, body }
  | _ => none

/-- The frame of a LEN and all the bytes after it; none where the CRC does not match (R181). -/
def goodFrame (len : Nat) (bytes : List Byte) : Option Frame :=
  if bytes.drop len = bytes16 (crc16 (byteOf len :: bytes.take len)) then frameOf (bytes.take len) else none

/-- The TAG and the request of a command that is one; none for an arrival or an event. -/
def Instr.request : Instr → Option (Byte × Request)
  | .identify t => some (t, .identify)
  | .restart t m => some (t, .restart m)
  | .setProfile t f l r => some (t, .setProfile f l r)
  | .getProfile t p => some (t, .getProfile p)
  | .setAdmin t p a => some (t, .setAdmin p a)
  | .portRestart t p => some (t, .portRestart p)
  | .getPort t p => some (t, .getPort p)
  | .clearFlags t p k => some (t, .clearFlags p k)
  | .setWatch t p e m => some (t, .setWatch p e m)
  | .clearCounters t p => some (t, .clearCounters p)
  | .loadPages t p gs => some (t, .loadPages p gs)
  | .clearPages t p => some (t, .clearPages p)
  | .getPartnerPages t p => some (t, .getPartnerPages p)
  | .startTest t p r a c y d => some (t, .startTest p r a c y d)
  | .cancelTest t x v => some (t, .cancelTest x v)
  | .getQueue t f => some (t, .getQueue f)
  | .restoreEngine t e => some (t, .restoreEngine e)
  | .getResult t p => some (t, .getResult p)
  | .readTrace t k p f c => some (t, .readTrace k p f c)
  | .releaseTrace t k => some (t, .releaseTrace k)
  | .fetchReports t => some (t, .fetchReports)
  | .getSummary t => some (t, .getSummary)
  | .energyPresent _ | .energyAbsent _ | .partnerWord _ _ | .trainingConverged _ _ _ _ | .trainingFailed _
  | .marginSample _ _ | .signalLost _ | .exchangeTimerExpiry _ | .trainingTimerExpiry _ | .holdoffWaitEnd _
  | .energyAbsenceTimerExpiry _ | .recheckTimerExpiry _ | .agingClockExpiry _ | .busCheckPass _ | .busCheckFail _
  | .listenAttemptEnd _ _ | .listenWaitEnd _ | .launchCaptured _ _ | .analysisDone _ | .releaseEnd _
  | .mrxCharacter _ _ | .gapTimerExpiry | .replySent | .powerOn | .resetAssert | .resetRelease => none

/-! ### The table's words -/

/-- The command that a word spells by the opcode table's bits. The table gives no bits to any of its 48 rows (they are
requests, arrivals and events, not instruction words), so no word spells one (entry 18). -/
def decodeTableWord (_nbits _w : Nat) : Option Instr := none

end Sys2Proof
end

