-- ==== Sys2Proof/Config.lean ====
section
/-! DEFINITION. What the spec leaves to the part: the seeds a port draws, the data value of a null page, and which of a
hold notice and a FETCH_REPORTS that come together is taken first. -/

namespace Sys2Proof

/-- The n-th seed that port `p` draws from its own random source. R8: any value of 0 to 1023 may come, including the
seed of the previous draw. A FREE VALUE (entry 3): it has no body, so nothing can be proved of it. -/
opaque Config.seedDraw (p : PortId) (n : Nat) : BitVec 10

/-- The data value of the null page that port `p` sends in the exchange after its n-th draw. R13 gives a null page tag
0, MORE and parity and no data. A FREE VALUE (entry 24): it has no body, so nothing can be proved of it. -/
opaque Config.nullPageData (p : PortId) (n : Nat) : BitVec 24

/-- Whether a FETCH_REPORTS that reaches the report queue together with a hold notice is taken before it, at the n-th time
this happens. R162 lets either come first. A FREE VALUE (entry 25): it has no body, so nothing can be proved of it. -/
opaque Config.fetchFirst (n : Nat) : Bool

end Sys2Proof
end

