-- ==== Sys2Proof/Machine/Types.lean ====
section
/-! DEFINITION. The records the part's blocks hold: port records, profiles, test records, engines, results, trace
slots, report entries and the management line's receiver and sender. Plain data, no behaviour. -/

namespace Sys2Proof.Machine

/-- The nine link states (R1). -/
inductive LinkState where
  | disabled | listen | offer | extend | train | up | holdoff | stalled | test
deriving DecidableEq, Repr

/-- Why a port is STALLED (R35). -/
inductive StallCause where
  | noCommonSpeed | roleConflict | roleTie | trainingExhausted
deriving DecidableEq, Repr

/-- The cause of a LINK_DOWN (R44). -/
inductive DownCause where
  | admin | signalLost | margin | restart | test
deriving DecidableEq, Repr

/-- Watch states (R51). -/
inductive WatchState where
  | unarmed | armed | tripped
deriving DecidableEq, Repr

/-- link_mode of a profile (R6). -/
inductive LinkMode where
  | exchange | forced
deriving DecidableEq, Repr

/-- The reach of a test record (R107). -/
inductive Reach where
  | short | medium | long | auto
deriving DecidableEq, Repr

/-- The reach class of one run, and the reach used of a pair (R107, R138). -/
inductive RunReach where
  | short | medium | long
deriving DecidableEq, Repr

/-- recheck_mode of a profile (R71). -/
inductive RecheckMode where
  | once | repeat
deriving DecidableEq, Repr

/-- Where a test record came from (section 4.1). -/
inductive Origin where
  | request | auto | recheck
deriving DecidableEq, Repr

/-- The outcomes of a test record (section 4.8). -/
inductive TestOutcome where
  | complete | partnerActive | aborted | busFault | skippedLinkUp | noEngine | cancelled
deriving DecidableEq, Repr

/-- The class of a pair (R112, R138). -/
inductive PairClass where
  | normal | opened | short | highImpedance | lowImpedance | crossShort | noisy | notTested
deriving DecidableEq, Repr

/-- Engine states (R91). -/
inductive EngineState where
  | idle | connect | listen | pulse | analyse | release | outOfService
deriving DecidableEq, Repr

/-- What became of a test's trace (R139). -/
inductive Disposition where
  | notRequested | held | traceNone | discarded
deriving DecidableEq, Repr

/-- Restart causes (R187). -/
inductive RestartCause where
  | powerOn | resetLine | coldRequest | warmRequest
deriving DecidableEq, Repr

/-- The mode of a RESTART (R188). -/
inductive RestartMode where
  | cold | warm
deriving DecidableEq, Repr

/-- The nine kinds of sticky event flag (section 3.4). -/
inductive EventKind where
  | linkUp | linkDown | trainFail | downshift | stall | exchangeTimeout | marginLow | departure | testDone
deriving DecidableEq, Repr

/-- FIRST or RERUN (R102). -/
inductive Run where
  | first | rerun
deriving DecidableEq, Repr

/-- The output of a port's transmitter (R1); off too while RESET is low (R189). -/
inductive TxOutput where
  | off | presence | offerWord (w : Option OfferWord) | pageWord (w : Option PageWord)
  | training (at? : Option (Speed × Role)) | data | engine
deriving DecidableEq, Repr

/-- What MTX carries (R176): the idle level, high, or the levels of a reply's characters, low being false. -/
inductive MtxOutput where
  | idle
  | levels (x : List Bool)
deriving DecidableEq, Repr

/-- The condition word, nine fields (section 2.8). `speed` and `role` are none for NONE; polarity bit 0 is pair A. -/
structure CondWord where
  link : Bool
  speed : Option Speed
  role : Option Role
  pairMap : PairMap
  polarity : BitVec 4
  energy : Bool
  marginLow : Bool
  stalled : Bool
  testing : Bool
deriving DecidableEq, Repr

/-- The page in sending (R13): none for a null page. -/
structure Sending where
  page : Option Page
  more : Bool
  parity : Bool
deriving DecidableEq, Repr

/-- What a port UP holds of its link (R28). -/
structure Link where
  speed : Speed
  role : Role
  margin : Nat
deriving DecidableEq, Repr

/-- The five port counters (section 2.9). -/
structure Counters where
  linkUps : Nat
  linkDrops : Nat
  trainFailures : Nat
  exchangeTimeouts : Nat
  downshifts : Nat
deriving DecidableEq, Repr

/-- The failure counts of the downshift memory (R30). -/
structure FailCounts where
  s100 : Nat
  s1g : Nat
  s2g5 : Nat
  s5g : Nat
  s10g : Nat
deriving DecidableEq, Repr

/-- The Condition Watch of a port (section 3.1). Whether comparison is suspended is a view of the link state (R54). -/
structure Watch where
  expectation : CondWord
  mask : FieldSet
  state : WatchState
deriving DecidableEq, Repr

/-- One port record: the Port Link Unit and its Condition Watch. Timers that carry a length are none when stopped. -/
structure Port where
  state : LinkState
  enabled : Bool
  candidate : Option (PartnerWord × Nat)
  ownOffer : Option OfferWord
  partnerOffer : Option OfferWord
  tie : Nat
  pages : List Page
  log : List Page
  truncated : Bool
  lastParity : Option Bool
  ownAck : Option Bool
  localDone : Bool
  partnerDone : Bool
  sending : Option Sending
  nextParity : Bool
  exchangeTimer : Option Nat
  training : Option (Speed × Role)
  trainTimer : Option Nat
  link : Option Link
  smoothed : Option Nat
  samples : Nat
  marginLow : Bool
  pairMap : PairMap
  polarity : BitVec 4
  energy : Bool
  failCounts : FailCounts
  removed : SpeedSet
  holdoff : Option Nat
  absence : Bool
  stallCause : Option StallCause
  returnToStall : Bool
  lastDown : Option DownCause
  counters : Counters
  flags : KindSet
  watch : Watch
  draws : Nat
deriving DecidableEq, Repr

/-- One port profile, the 26 fields of R166. -/
structure Profile where
  linkMode : LinkMode
  allowed : SpeedSet
  forced : Speed
  roleClass : RoleClass
  downshiftAfter : Nat
  holdoffMs : Nat
  exchangeMs : Nat
  marginAlarm : Nat
  marginHyst : Nat
  marginDrop : Nat
  velocity : Nat
  lossSlope : Nat
  detectLevel : Nat
  hardLevel : Nat
  crossLevel : Nat
  noiseLimit : Nat
  reportEnables : KindSet
  autoTriggers : KindSet
  autoPriority : Nat
  autoReach : Reach
  autoAvg : Nat
  autoCapture : Bool
  holdReports : Bool
  recheckS : Nat
  recheckMode : RecheckMode
  recheckPriority : Nat
deriving DecidableEq, Repr

/-- PENDING, or RUNNING with the engine that runs it (section 4.1: the engine is absent while PENDING). -/
inductive RecordState where
  | pending
  | running (e : EngineId)
deriving DecidableEq, Repr

/-- A test record (section 4.1). Its hold mark and its aging clock are views (R152, R73). -/
structure TestRecord where
  number : Nat
  port : PortId
  origin : Origin
  reach : Reach
  avg : Nat
  capture : Bool
  priority : Nat
  allowDrop : Bool
  state : RecordState
deriving DecidableEq, Repr

/-- The test summary (R79). -/
structure Summary where
  number : Nat
  outcome : TestOutcome
  worst : PairClass
  pair : Pair
  distance : Option Nat
deriving DecidableEq, Repr

/-- A flagged event with its details (section 3.4). -/
inductive FlagEvent where
  | linkUp
  | linkDown (c : DownCause)
  | trainFail
  | downshift
  | stall (c : StallCause)
  | exchangeTimeout
  | marginLow
  | departure
  | testDone (x : Summary)
deriving DecidableEq, Repr

/-- The six profile fields an engine snapshots at a grant (R87). -/
structure Snapshot where
  velocity : Nat
  lossSlope : Nat
  detectLevel : Nat
  hardLevel : Nat
  crossLevel : Nat
  noiseLimit : Nat
deriving DecidableEq, Repr

/-- What an engine holds of the test it serves (R87, section 5.4). -/
structure Job where
  port : PortId
  number : Nat
  reach : Reach
  avg : Nat
  capture : Bool
  slot : Option SlotId
  snap : Snapshot
deriving DecidableEq, Repr

/-- i0, peak and distance of an echo (R133). -/
structure Echo where
  i0 : Nat
  peak : Int
  distance : Nat
deriving DecidableEq, Repr

/-- Reach used, listen attempts and baseline spread of a finished pair (R112). -/
structure Measured where
  reach : RunReach
  attempts : Nat
  spread : Nat
deriving DecidableEq, Repr

/-- A pair result, and the pair record of a result (R112, R138). -/
structure PairRecord where
  pair : Pair
  cls : PairClass
  measured : Option Measured
  echo : Option Echo
  partner : Option Pair
deriving DecidableEq, Repr

/-- The measurement state of an engine (R102). The run reach is a view of the record's reach and the run (R107). -/
structure Meas where
  pair : Pair
  run : Run
  attempt : Nat
  waiting : Bool
  baselines : Option (Quad Int)
  spread : Option Nat
  reps : Nat
  sums : Quad (List Int)
deriving DecidableEq, Repr

/-- A probe engine (section 5.4). -/
structure Engine where
  state : EngineState
  job : Option Job
  meas : Option Meas
  finished : List PairRecord
  buffer : Quad (List Int)
  faultPending : Bool
deriving DecidableEq, Repr

/-- A pulse that an engine launches: the port and the pair it drives, and the width in nanoseconds (R107, R108). -/
structure Launch where
  port : PortId
  pair : Pair
  ns : Nat
deriving DecidableEq, Repr

/-- A busy bank: the port connected and the engine connected to it (R83). -/
structure BankUse where
  port : PortId
  engine : EngineId
deriving DecidableEq, Repr

/-- A result record (R137). The trace-current indication is computed at the reply (R140). -/
structure ResultRecord where
  port : PortId
  number : Nat
  origin : Origin
  reach : Reach
  avg : Nat
  velocity : Nat
  outcome : TestOutcome
  disposition : Disposition
  slot : Option SlotId
  pairs : Quad PairRecord
deriving DecidableEq, Repr

/-- Reach used and sample count of one pair in a trace header (R144). -/
structure TracePair where
  reach : RunReach
  count : Nat
deriving DecidableEq, Repr

/-- The header of a HELD trace slot (R144). -/
structure TraceHeader where
  number : Nat
  port : PortId
  pairs : Quad TracePair
deriving DecidableEq, Repr

/-- A trace slot (R142). -/
inductive Slot where
  | free
  | filling (e : EngineId) (number : Nat)
  | held (header : TraceHeader) (lists : Quad (List Int))
deriving DecidableEq, Repr

/-- A port entry of the report queue (R152). -/
structure PortEntry where
  port : PortId
  kinds : KindSet
  word : CondWord
  downCause : Option DownCause
  stallCause : Option StallCause
  summary : Option Summary
  hold : Option Nat
deriving DecidableEq, Repr

/-- The device entry (R153): RESTARTED is among its kinds while it has a restart cause, ENGINE_FAULT while its faulted
engine set (bit 0 PE1) is not empty. -/
structure DeviceEntry where
  restart : Option RestartCause
  faults : BitVec 4
deriving DecidableEq, Repr

/-- An entry of the report queue (R151). -/
inductive Entry where
  | port (x : PortEntry)
  | device (x : DeviceEntry)
deriving DecidableEq, Repr

/-- What a FETCH_REPORTS takes from the report queue: the entries it returns, oldest first, and how many unheld and held
entries it leaves (R161). -/
structure Fetched where
  given : List Entry
  unheld : Nat
  held : Nat
deriving DecidableEq, Repr

/-- Status codes of replies (R186, R195). -/
inductive Status where
  | ok | clamped | unknownKind | badLength | badPort | badValue | portBusy | linkUp | noEngine | phaseBusy
  | notFound | slotBusy | inboxFull
deriving DecidableEq, Repr

/-- A reply: TAG, KIND, STATUS and BODY (R177). Its LEN and CRC are computed when it is sent. -/
structure Reply where
  tag : Byte
  kind : Byte
  status : Status
  body : List Byte
deriving DecidableEq, Repr

/-- What an owning block answers to a request; `restart` is set by a taken RESTART (R188). -/
structure Answer where
  status : Status
  body : List Byte
  restart : Option RestartMode
deriving DecidableEq, Repr

/-- The receiver (section 11.3): in FRAME, the LEN received (none before it) and the bytes after it. The gap timer
runs exactly in FRAME. -/
inductive Receiver where
  | hunt
  | frame (len : Option Nat) (bytes : List Byte)
deriving DecidableEq, Repr

/-- The reply sender (R183): SENDING holds the reply on the line and the restart that follows it, if any (R188). -/
inductive Sender where
  | idle
  | sending (r : Reply) (restart : Option RestartMode)
deriving DecidableEq, Repr

end Sys2Proof.Machine
end

