-- ==== Sys2Proof/Machine/Reset.lean ====
section
/-! DEFINITION. The cold-start value of every record (R24, R45, R48, R62, R100, R175). -/

namespace Sys2Proof.Machine

/-- One item for each pair, all the same. -/
def sameQuad {α : Type} (x : α) : Quad α := ⟨x, x, x, x⟩

/-- The condition word after a cold start, which is the first value of every field (R45, R62). -/
def coldWord : CondWord :=
  { link := false, speed := none, role := none, pairMap := .straight, polarity := 0, energy := false,
    marginLow := false, stalled := false, testing := false }

/-- The watch after a cold start: an empty mask, ARMED (R62). -/
def coldWatch : Watch := { expectation := coldWord, mask := 0, state := .armed }

/-- Counters after a cold start (R46). -/
def coldCounters : Counters :=
  { linkUps := 0, linkDrops := 0, trainFailures := 0, exchangeTimeouts := 0, downshifts := 0 }

/-- Failure counts of a clear downshift memory (R30). -/
def noFailures : FailCounts := { s100 := 0, s1g := 0, s2g5 := 0, s5g := 0, s10g := 0 }

/-- A port record after a cold start (R24, R48, R59, R62), its source of seeds having made `draws` draws (entry 3). -/
def coldPort (draws : Nat) : Port :=
  { state := .disabled, enabled := false, candidate := none, ownOffer := none, partnerOffer := none, tie := 0,
    pages := [], log := [], truncated := false, lastParity := none, ownAck := none, localDone := false,
    partnerDone := false, sending := none, nextParity := false, exchangeTimer := none, training := none,
    trainTimer := none, link := none, smoothed := none, samples := 0, marginLow := false, pairMap := .straight,
    polarity := 0, energy := false, failCounts := noFailures, removed := 0, holdoff := none, absence := false,
    stallCause := none, returnToStall := false, lastDown := none, counters := coldCounters, flags := 0,
    watch := coldWatch, draws }

/-- The default profile (R166, R175). report_enables is {LINK_UP, LINK_DOWN, STALL, DEPARTURE, TEST_DONE}, bits 0, 1,
4, 7 and 8; auto_triggers is {STALL}, bit 4. -/
def defaultProfile : Profile :=
  { linkMode := .exchange, allowed := 0b11111#5, forced := .s1g, roleClass := .preferFollow, downshiftAfter := 2,
    holdoffMs := 500, exchangeMs := 1500, marginAlarm := 60, marginHyst := 10, marginDrop := 0, velocity := 660,
    lossSlope := 40, detectLevel := 160, hardLevel := 1100, crossLevel := 500, noiseLimit := 48,
    reportEnables := 0b110010011#9, autoTriggers := 0b000010000#9, autoPriority := 4, autoReach := .auto, autoAvg := 3,
    autoCapture := false, holdReports := true, recheckS := 0, recheckMode := .repeat, recheckPriority := 1 }

/-- An engine after a cold start: IDLE and in service, holding nothing (R100). -/
def coldEngine : Engine :=
  { state := .idle, job := none, meas := none, finished := [], buffer := sameQuad [], faultPending := false }

/-- The device entry that a start with this cause appends (R164, R165). -/
def restartedEntry (c : RestartCause) : Entry := .device { restart := some c, faults := 0 }

end Sys2Proof.Machine
end

