-- ==== Sys2Proof/Machine/State.lean ====
section
/-! DEFINITION. The state of the part, the reasons a step can stop, and the state after reset. Plain data. -/

namespace Sys2Proof.Machine

/-- The spec gives the part no fault that stops it: wrong requests are refused with a status, corrupt frames and
events out of place are discarded, and an engine's bus fault is a state of the part (R93, R98). So no constructor. -/
inductive Fault
deriving DecidableEq, Repr

/-- Reasons to refuse a command. -/
inductive Refusal where
  /-- Raised by `exec` alone, for a command whose meaning is not written. Safe. No arm raises it. -/
  | notModelled (mnemonic : String)
deriving DecidableEq, Repr

/-- Everything the part holds (INVENTORY.md, State). -/
structure State where
  /-- The RESET input is low (R189). -/
  resetLow : Bool
  /-- The last restart cause (R187). -/
  lastCause : RestartCause
  /-- The receiver of the management line (R179, R180). -/
  receiver : Receiver
  /-- The request inbox, oldest first (R182). -/
  inbox : List Frame
  /-- The overflow reply (R182). -/
  overflow : Option Reply
  /-- The reply sender (R183). -/
  sender : Sender
  /-- The 48 port records (chapters 1 to 3). -/
  ports : Vector Port 48
  /-- The 48 profiles (R166). -/
  profiles : Vector Profile 48
  /-- The test queue, in submission order (R63). -/
  queue : List TestRecord
  /-- The next test number (R64). -/
  nextNumber : Nat
  /-- The recheck timers: none when stopped, else the seconds loaded (R71). -/
  recheck : Vector (Option Nat) 48
  /-- The bank busy map (R83). -/
  banks : Vector (Option BankUse) 6
  /-- The four probe engines (section 5.4). -/
  engines : Vector Engine 4
  /-- The Result Table (R136). -/
  results : Vector (Option ResultRecord) 48
  /-- The eight trace slots (R142). -/
  slots : Vector Slot 8
  /-- The report queue, in creation order (R151). -/
  reports : List Entry
  /-- MODEL's own: a submission has called for a grant pass, which runs at the end of its cause (R58, entry 17). -/
  passDue : Bool
  /-- MODEL's own: what the FETCH_REPORTS at the front of the queue has taken already, inside the step of the event that
  it came together with (R162, entry 25). -/
  fetch : Option Fetched
  /-- MODEL's own: how often a FETCH_REPORTS and a hold notice have come together (entry 25). -/
  choices : Nat
  /-- MODEL's own: the commands that wait, oldest first. -/
  pending : List Instr
deriving DecidableEq, Repr

/-- The part right after a cold start by power-on, with no command waiting (entry 6). -/
def State.reset : State :=
  { resetLow := false, lastCause := .powerOn, receiver := .hunt, inbox := [], overflow := none, sender := .idle,
    ports := Vector.replicate 48 (coldPort 0), profiles := Vector.replicate 48 defaultProfile, queue := [],
    nextNumber := 1, recheck := Vector.replicate 48 none, banks := Vector.replicate 6 none,
    engines := Vector.replicate 4 coldEngine, results := Vector.replicate 48 none,
    slots := Vector.replicate 8 .free, reports := [restartedEntry .powerOn], passDue := false, fetch := none, choices := 0,
    pending := [] }

end Sys2Proof.Machine
end

