-- ==== Sys2Proof/Machine/Ops.lean ====
section
/-! DEFINITION. The named reads and writes of the state, one home each, and the fixed wiring of ports, banks and
engines (section 5.1). -/

namespace Sys2Proof.Machine

/-! ### Ports, banks and the reach table -/

/-- The ports in ascending order. -/
def allPorts : List PortId := List.finRange 48

/-- The engines in ascending order. -/
def allEngines : List EngineId := [0, 1, 2, 3]

/-- The trace slots in ascending order. -/
def allSlots : List SlotId := [0, 1, 2, 3, 4, 5, 6, 7]

/-- The bank of a port: bank b holds ports 8(b-1)+1 to 8b. -/
def bankOf (p : PortId) : BankId := ⟨p.val / 8, by omega⟩

/-- The reach table, fixed (R82). -/
def reaches (e : EngineId) (b : BankId) : Bool :=
  match e.val, b.val with
  | 0, 0 | 0, 1 | 0, 5 => true
  | 1, 1 | 1, 2 | 1, 3 => true
  | 2, 3 | 2, 4 | 2, 5 => true
  | 3, 0 | 3, 2 | 3, 4 => true
  | _, _ => false

/-! ### Reads and writes of the blocks -/

namespace State

/-- The record of a port. -/
def port (s : State) (p : PortId) : Port := s.ports[p]

/-- Write the record of a port. -/
def setPort (s : State) (p : PortId) (q : Port) : State := { s with ports := s.ports.set p q }

/-- Change the record of a port. -/
def modPort (s : State) (p : PortId) (f : Port → Port) : State := s.setPort p (f (s.port p))

/-- The profile of a port. -/
def profile (s : State) (p : PortId) : Profile := s.profiles[p]

/-- Write the profile of a port. -/
def setProfile (s : State) (p : PortId) (r : Profile) : State := { s with profiles := s.profiles.set p r }

/-- The recheck timer of a port. -/
def recheckOf (s : State) (p : PortId) : Option Nat := s.recheck[p]

/-- Write the recheck timer of a port. -/
def setRecheck (s : State) (p : PortId) (t : Option Nat) : State := { s with recheck := s.recheck.set p t }

/-- What a bank is busy with. -/
def bank (s : State) (b : BankId) : Option BankUse := s.banks[b]

/-- Write the bank busy map. -/
def setBank (s : State) (b : BankId) (u : Option BankUse) : State := { s with banks := s.banks.set b u }

/-- A probe engine. -/
def engine (s : State) (e : EngineId) : Engine := s.engines[e]

/-- Write a probe engine. -/
def setEngine (s : State) (e : EngineId) (x : Engine) : State := { s with engines := s.engines.set e x }

/-- A port's place in the Result Table. -/
def result (s : State) (p : PortId) : Option ResultRecord := s.results[p]

/-- Write a port's place in the Result Table. -/
def setResult (s : State) (p : PortId) (r : Option ResultRecord) : State := { s with results := s.results.set p r }

/-- A trace slot. -/
def slot (s : State) (t : SlotId) : Slot := s.slots[t]

/-- Write a trace slot. -/
def setSlot (s : State) (t : SlotId) (x : Slot) : State := { s with slots := s.slots.set t x }

/-- Write the test queue. -/
def setQueue (s : State) (q : List TestRecord) : State := { s with queue := q }

/-- Write the next test number. -/
def setNextNumber (s : State) (n : Nat) : State := { s with nextNumber := n }

/-- Write the report queue. -/
def setReports (s : State) (r : List Entry) : State := { s with reports := r }

/-- Note that a grant pass is due at the end of the cause (R58). -/
def duePass (s : State) (b : Bool) : State := { s with passDue := b }

/-- Write the receiver. -/
def setReceiver (s : State) (r : Receiver) : State := { s with receiver := r }

/-- Write the request inbox. -/
def setInbox (s : State) (q : List Frame) : State := { s with inbox := q }

/-- Write the overflow reply. -/
def setOverflow (s : State) (r : Option Reply) : State := { s with overflow := r }

/-- Write the reply sender. -/
def setSender (s : State) (x : Sender) : State := { s with sender := x }

/-- Write the queue of waiting commands. -/
def setPending (s : State) (q : List Instr) : State := { s with pending := q }

/-- Write what a FETCH_REPORTS has taken inside another event's step. -/
def setFetch (s : State) (x : Option Fetched) : State := { s with fetch := x }

/-- Write how often a FETCH_REPORTS and a hold notice have come together. -/
def setChoices (s : State) (n : Nat) : State := { s with choices := n }

/-- Do `f` with the waiting commands out of sight. A request is at its owner alone: the next one is dispatched when its
reply has left (R183, R192), so no FETCH_REPORTS comes together with it. -/
def apart (s : State) (f : State → State) : State := (f (s.setPending [])).setPending s.pending

/-- The record of a port in the test queue, if it has one. -/
def recordOf (s : State) (p : PortId) : Option TestRecord := s.queue.find? (fun r => r.port == p)

/-- The record with a test number, if one is in the queue. -/
def recordNumbered (s : State) (n : Nat) : Option TestRecord := s.queue.find? (fun r => r.number == n)

/-- An engine is in service in every state except OUT_OF_SERVICE (R82). -/
def inService (s : State) (e : EngineId) : Bool := (s.engine e).state != .outOfService

/-- A bank is reached when at least one of its two engines is in service (R82). -/
def bankReached (s : State) (b : BankId) : Bool := allEngines.any (fun e => reaches e b && s.inService e)

/-- ATTN is low exactly while the report queue holds an unheld entry (R163); released while RESET is low (R189). -/
def attnLow (s : State) : Bool :=
  !s.resetLow && s.reports.any (fun x => match x with
    | .port y => y.hold.isNone
    | .device _ => true)

/-- What each bank switch joins (R83): the connected port's pairs from the start of CONNECT to the start of RELEASE,
and no port otherwise, nor while RESET is low (R189). -/
def bankSwitch (s : State) (b : BankId) : Option PortId :=
  match s.resetLow, s.bank b with
  | true, _ | false, none => none
  | false, some u =>
    match (s.engine u.engine).state with
    | .connect | .listen | .pulse | .analyse => some u.port
    | .idle | .release | .outOfService => none

end State

/-! ### Small arithmetic -/

/-- A counter that holds at a limit. -/
def bump (limit n : Nat) : Nat := if n < limit then n + 1 else n

/-- Hold a number to a range, the nearer limit replacing it (R168). -/
def clampTo (lo hi n : Nat) : Nat := if n < lo then lo else if hi < n then hi else n

/-! ### Quads -/

/-- The item of a pair. -/
def quadGet {α : Type} (q : Quad α) : Pair → α
  | .a => q.a | .b => q.b | .c => q.c | .d => q.d

/-- Replace the item of a pair. -/
def quadSet {α : Type} (q : Quad α) (x : Pair) (v : α) : Quad α :=
  match x with
  | .a => { q with a := v }
  | .b => { q with b := v }
  | .c => { q with c := v }
  | .d => { q with d := v }

/-- Apply a function to every item. -/
def quadMap {α β : Type} (f : α → β) (q : Quad α) : Quad β := ⟨f q.a, f q.b, f q.c, f q.d⟩

/-- Combine two quads item by item. -/
def quadZip {α β γ : Type} (f : α → β → γ) (q : Quad α) (r : Quad β) : Quad γ :=
  ⟨f q.a r.a, f q.b r.b, f q.c r.c, f q.d r.d⟩

/-- The items in pair order. -/
def quadList {α : Type} (q : Quad α) : List α := [q.a, q.b, q.c, q.d]

end Sys2Proof.Machine
end

