-- ==== Sys2Proof/Machine/Operands.lean ====
section
/-! DEFINITION. The operands of requests: port, engine and slot numbers, the codes of R195, sets, and the checks and
clamps of START_TEST and SET_PROFILE; and the codes the part sends. -/

namespace Sys2Proof.Machine

/-! ### Numbers -/

/-- A port number: 1 to 48, and no other. -/
def portOf (b : Byte) : Option PortId :=
  if h : 1 ≤ b.toNat ∧ b.toNat ≤ 48 then some ⟨b.toNat - 1, by omega⟩ else none

/-- A port number in a 16-bit field (CANCEL_TEST). -/
def portOf16 (w : Word) : Option PortId :=
  if h : 1 ≤ w.toNat ∧ w.toNat ≤ 48 then some ⟨w.toNat - 1, by omega⟩ else none

/-- An engine number: 1 to 4, and no other. -/
def engineOf (b : Byte) : Option EngineId :=
  if h : 1 ≤ b.toNat ∧ b.toNat ≤ 4 then some ⟨b.toNat - 1, by omega⟩ else none

/-- A slot number: 1 to 8, and no other. -/
def slotOf (b : Byte) : Option SlotId :=
  if h : 1 ≤ b.toNat ∧ b.toNat ≤ 8 then some ⟨b.toNat - 1, by omega⟩ else none

/-- A port's number as it is sent. -/
def portByte (p : PortId) : Byte := byteOf (p.val + 1)

/-! ### Codes the part sends (R195) -/

/-- The link state code. -/
def LinkState.code : LinkState → Nat
  | .disabled => 0 | .listen => 1 | .offer => 2 | .extend => 3 | .train => 4 | .up => 5 | .holdoff => 6
  | .stalled => 7 | .test => 8

/-- The reach code. -/
def Reach.code : Reach → Nat
  | .short => 0 | .medium => 1 | .long => 2 | .auto => 3

/-- The reach code of a reach used. -/
def RunReach.code : RunReach → Nat
  | .short => 0 | .medium => 1 | .long => 2

/-- The pair class code. -/
def PairClass.code : PairClass → Nat
  | .normal => 0 | .opened => 1 | .short => 2 | .highImpedance => 3 | .lowImpedance => 4 | .crossShort => 5
  | .noisy => 6 | .notTested => 7

/-- The outcome code. -/
def TestOutcome.code : TestOutcome → Nat
  | .complete => 0 | .partnerActive => 1 | .aborted => 2 | .busFault => 3 | .skippedLinkUp => 4 | .noEngine => 5
  | .cancelled => 6

/-- The origin code. -/
def Origin.code : Origin → Nat
  | .request => 0 | .auto => 1 | .recheck => 2

/-- The record state code. -/
def RecordState.code : RecordState → Nat
  | .pending => 0 | .running _ => 1

/-- The link-down cause code. -/
def DownCause.code : DownCause → Nat
  | .admin => 0 | .signalLost => 1 | .margin => 2 | .restart => 3 | .test => 4

/-- The stall cause code. -/
def StallCause.code : StallCause → Nat
  | .noCommonSpeed => 0 | .roleConflict => 1 | .roleTie => 2 | .trainingExhausted => 3

/-- The watch state code. -/
def WatchState.code : WatchState → Nat
  | .unarmed => 0 | .armed => 1 | .tripped => 2

/-- The engine state code. -/
def EngineState.code : EngineState → Nat
  | .idle => 0 | .connect => 1 | .listen => 2 | .pulse => 3 | .analyse => 4 | .release => 5 | .outOfService => 6

/-- The slot state code. -/
def Slot.code : Slot → Nat
  | .free => 0 | .filling _ _ => 1 | .held _ _ => 2

/-- The trace disposition code. -/
def Disposition.code : Disposition → Nat
  | .notRequested => 0 | .held => 1 | .traceNone => 2 | .discarded => 3

/-- The restart cause code. -/
def RestartCause.code : RestartCause → Nat
  | .powerOn => 0 | .resetLine => 1 | .coldRequest => 2 | .warmRequest => 3

/-- The link_mode code. -/
def LinkMode.code : LinkMode → Nat
  | .exchange => 0 | .forced => 1

/-- The recheck_mode code. -/
def RecheckMode.code : RecheckMode → Nat
  | .once => 0 | .repeat => 1

/-- The status code, one byte in every reply. -/
def Status.code : Status → Byte
  | .ok => 0x00 | .clamped => 0x01 | .unknownKind => 0x80 | .badLength => 0x81 | .badPort => 0x82 | .badValue => 0x83
  | .portBusy => 0x84 | .linkUp => 0x85 | .noEngine => 0x86 | .phaseBusy => 0x87 | .notFound => 0x88
  | .slotBusy => 0x89 | .inboxFull => 0x8A

/-- An optional parity: 0 NONE, 1 parity 0, 2 parity 1 (own ACK). -/
def ackCode : Option Bool → Nat
  | none => 0 | some false => 1 | some true => 2

/-! ### Codes requests carry (R195) -/

/-- A link_mode code. -/
def LinkMode.ofCode : Nat → Option LinkMode
  | 0 => some .exchange | 1 => some .forced | _ => none

/-- A reach code. -/
def Reach.ofCode : Nat → Option Reach
  | 0 => some .short | 1 => some .medium | 2 => some .long | 3 => some .auto | _ => none

/-- A recheck_mode code. -/
def RecheckMode.ofCode : Nat → Option RecheckMode
  | 0 => some .once | 1 => some .repeat | _ => none

/-- A RESTART mode code. -/
def RestartMode.ofCode : Nat → Option RestartMode
  | 0 => some .cold | 1 => some .warm | _ => none

/-! ### Sets (R194, R195: reserved bits are ignored) -/

/-- Membership of a speed class. -/
def hasSpeed (x : SpeedSet) (c : Speed) : Bool := x.getLsbD c.idx

/-- The set of one speed class. -/
def oneSpeed (c : Speed) : SpeedSet := 1#5 <<< c.idx

/-- The highest class of a set, none if it is empty. -/
def highestSpeed (x : SpeedSet) : Option Speed :=
  [Speed.s10g, .s5g, .s2g5, .s1g, .s100].find? (fun c => hasSpeed x c)

/-- The lowest class of a set, none if it is empty. -/
def lowestSpeed (x : SpeedSet) : Option Speed :=
  [Speed.s100, .s1g, .s2g5, .s5g, .s10g].find? (fun c => hasSpeed x c)

/-- The place of an event kind in a kind set. -/
def EventKind.idx : EventKind → Nat
  | .linkUp => 0 | .linkDown => 1 | .trainFail => 2 | .downshift => 3 | .stall => 4 | .exchangeTimeout => 5
  | .marginLow => 6 | .departure => 7 | .testDone => 8

/-- Membership of an event kind. -/
def hasKind (x : KindSet) (k : EventKind) : Bool := x.getLsbD k.idx

/-- Add an event kind. -/
def addKind (x : KindSet) (k : EventKind) : KindSet := x ||| (1#9 <<< k.idx)

/-- The kinds auto_triggers may hold: TRAIN_FAIL, LINK_DOWN, STALL, DEPARTURE, bits 2, 1, 4 and 7 (R60). -/
def triggerKinds : KindSet := 0b010010110#9

/-- The event kinds of a two-byte set, its reserved bits ignored. -/
def kindsOf (w : Word) : KindSet := w.setWidth 9

/-- A kind or field set as two bytes, reserved bits 0. -/
def setBytes (x : KindSet) : List Byte := bytes16 (x.setWidth 16)

/-- A speed set as a byte, reserved bits 0. -/
def speedByte (x : SpeedSet) : Byte := x.setWidth 8

/-! ### The profile record of SET_PROFILE (R167, R168) -/

/-- hard_level in two steps: at most 4095, then above the clamped detect_level (R168). -/
def clampHard (detect hard : Nat) : Nat :=
  let h := if 4095 < hard then 4095 else hard
  if h ≤ detect then detect + 1 else h

/-- Checks 2 to 4 of R167: the enumerated codes, allowed_speeds not empty, auto_triggers within its four kinds. -/
def rawValid (r : RawProfile) : Bool :=
  (LinkMode.ofCode r.linkMode.toNat).isSome && (Speed.ofCode r.forcedSpeed.toNat).isSome &&
    (RoleClass.ofCode r.roleClass.toNat).isSome && (Reach.ofCode r.autoReach.toNat).isSome &&
    (boolOfCode r.autoCapture.toNat).isSome && (boolOfCode r.holdReports.toNat).isSome &&
    (RecheckMode.ofCode r.recheckMode.toNat).isSome && (r.allowedSpeeds.setWidth 5 != 0#5) &&
    (kindsOf r.autoTriggers &&& ~~~triggerKinds == 0#9)

/-- The profile a valid record stores, its numeric fields clamped (R168). The codes of a valid record are defined, so
the defaults given here for undefined ones are never taken. -/
def rawClamped (r : RawProfile) : Profile :=
  let detect := clampTo 16 2047 r.detectLevel.toNat
  { linkMode := (LinkMode.ofCode r.linkMode.toNat).getD .exchange,
    allowed := r.allowedSpeeds.setWidth 5,
    forced := (Speed.ofCode r.forcedSpeed.toNat).getD .s1g,
    roleClass := (RoleClass.ofCode r.roleClass.toNat).getD .preferFollow,
    downshiftAfter := clampTo 0 4 r.downshiftAfter.toNat,
    holdoffMs := clampTo 100 5000 r.holdoffMs.toNat,
    exchangeMs := clampTo 500 10000 r.exchangeMs.toNat,
    marginAlarm := r.marginAlarm.toNat,
    marginHyst := clampTo 0 50 r.marginHyst.toNat,
    marginDrop := r.marginDrop.toNat,
    velocity := clampTo 500 900 r.velocity.toNat,
    lossSlope := r.lossSlope.toNat,
    detectLevel := detect,
    hardLevel := clampHard detect r.hardLevel.toNat,
    crossLevel := clampTo 16 4095 r.crossLevel.toNat,
    noiseLimit := clampTo 4 512 r.noiseLimit.toNat,
    reportEnables := kindsOf r.reportEnables,
    autoTriggers := kindsOf r.autoTriggers,
    autoPriority := clampTo 0 7 r.autoPriority.toNat,
    autoReach := (Reach.ofCode r.autoReach.toNat).getD .auto,
    autoAvg := clampTo 0 6 r.autoAvg.toNat,
    autoCapture := (boolOfCode r.autoCapture.toNat).getD false,
    holdReports := (boolOfCode r.holdReports.toNat).getD true,
    recheckS := r.recheckS.toNat,
    recheckMode := (RecheckMode.ofCode r.recheckMode.toNat).getD .repeat,
    recheckPriority := clampTo 0 7 r.recheckPriority.toNat }

/-- Whether the clamp replaced at least one field, so that the status is CLAMPED (R168). -/
def rawWasClamped (r : RawProfile) : Bool :=
  let q := rawClamped r
  (q.downshiftAfter != r.downshiftAfter.toNat) || (q.holdoffMs != r.holdoffMs.toNat) ||
    (q.exchangeMs != r.exchangeMs.toNat) || (q.marginHyst != r.marginHyst.toNat) ||
    (q.velocity != r.velocity.toNat) || (q.detectLevel != r.detectLevel.toNat) ||
    (q.hardLevel != r.hardLevel.toNat) || (q.crossLevel != r.crossLevel.toNat) ||
    (q.noiseLimit != r.noiseLimit.toNat) || (q.autoPriority != r.autoPriority.toNat) ||
    (q.autoAvg != r.autoAvg.toNat) || (q.recheckPriority != r.recheckPriority.toNat)

/-- A stored profile as its record (R199). -/
def Profile.raw (q : Profile) : RawProfile :=
  { linkMode := byteOf q.linkMode.code, allowedSpeeds := speedByte q.allowed, forcedSpeed := byteOf q.forced.code,
    roleClass := byteOf q.roleClass.code, downshiftAfter := byteOf q.downshiftAfter,
    holdoffMs := BitVec.ofNat 16 q.holdoffMs, exchangeMs := BitVec.ofNat 16 q.exchangeMs,
    marginAlarm := byteOf q.marginAlarm, marginHyst := byteOf q.marginHyst, marginDrop := byteOf q.marginDrop,
    velocity := BitVec.ofNat 16 q.velocity, lossSlope := byteOf q.lossSlope,
    detectLevel := BitVec.ofNat 16 q.detectLevel, hardLevel := BitVec.ofNat 16 q.hardLevel,
    crossLevel := BitVec.ofNat 16 q.crossLevel, noiseLimit := BitVec.ofNat 16 q.noiseLimit,
    reportEnables := q.reportEnables.setWidth 16, autoTriggers := q.autoTriggers.setWidth 16,
    autoPriority := byteOf q.autoPriority, autoReach := byteOf q.autoReach.code, autoAvg := byteOf q.autoAvg,
    autoCapture := byteOfBool q.autoCapture, holdReports := byteOfBool q.holdReports,
    recheckS := BitVec.ofNat 16 q.recheckS, recheckMode := byteOf q.recheckMode.code,
    recheckPriority := byteOf q.recheckPriority }

end Sys2Proof.Machine
end

