-- ==== Sys2Proof/Machine/Flags.lean ====
section
/-! DEFINITION. The condition word and its codec, the watch's comparison, the sticky event flags, the counters, and
the transmitter output: what a port shows (chapters 1 to 3). -/

namespace Sys2Proof.Machine

/-! ### The condition word (section 2.8) -/

/-- The condition word of a port: every field follows from state held elsewhere in the port record (R45). -/
def Port.word (q : Port) : CondWord :=
  { link := q.state == .up,
    speed := if q.state = .up then q.link.map (·.speed) else none,
    role := if q.state = .up then q.link.map (·.role) else none,
    pairMap := q.pairMap, polarity := q.polarity, energy := q.energy,
    marginLow := q.state == .up && q.marginLow,
    stalled := q.state == .stalled, testing := q.state == .test }

/-- The speed code in a condition word: 0 NONE. -/
def speedCode : Option Speed → Nat
  | none => 0
  | some x => x.code

/-- The role code in a condition word: 0 NONE. -/
def roleCode : Option Role → Nat
  | none => 0
  | some x => x.code

/-- One bit. -/
def bit (b : Bool) : BitVec 1 := BitVec.ofBool b

/-- The two bytes of a condition word (R195). -/
def encodeWord (w : CondWord) : Word :=
  bit w.link ++ BitVec.ofNat 3 (speedCode w.speed) ++ BitVec.ofNat 2 (roleCode w.role) ++
    BitVec.ofNat 2 w.pairMap.code ++ w.polarity ++ bit w.energy ++ bit w.marginLow ++ bit w.stalled ++ bit w.testing

/-- The SPEED field of a condition word: 6 and 7 are undefined. -/
def speedOfField : Nat → Option (Option Speed)
  | 0 => some none
  | n => (Speed.ofCode n).map some

/-- The ROLE field of a condition word: 3 is undefined. -/
def roleOfField : Nat → Option (Option Role)
  | 0 => some none
  | 1 => some (some .lead)
  | 2 => some (some .follow)
  | _ => none

/-- A condition word of two bytes; none where SPEED or ROLE holds an undefined code (R195). -/
def decodeWord (w : Word) : Option CondWord :=
  match speedOfField (w.extractLsb' 12 3).toNat, roleOfField (w.extractLsb' 10 2).toNat with
  | some speed, some role =>
    some { link := w.getLsbD 15, speed, role, pairMap := PairMap.ofCode (w.extractLsb' 8 2).toNat,
           polarity := w.extractLsb' 4 4, energy := w.getLsbD 3, marginLow := w.getLsbD 2, stalled := w.getLsbD 1,
           testing := w.getLsbD 0 }
  | _, _ => none

/-! ### The watch (sections 3.1, 3.3) -/

/-- The port matches when every masked field of its word equals the same field of the expectation (R50). The mask's
bits are LINK, SPEED, ROLE, PAIRMAP, POLARITY, ENERGY, MARGIN_LOW, STALLED, TESTING from bit 0. -/
def matchesWord (mask : FieldSet) (x w : CondWord) : Bool :=
  (!mask.getLsbD 0 || w.link == x.link) && (!mask.getLsbD 1 || w.speed == x.speed) &&
    (!mask.getLsbD 2 || w.role == x.role) && (!mask.getLsbD 3 || w.pairMap == x.pairMap) &&
    (!mask.getLsbD 4 || w.polarity == x.polarity) && (!mask.getLsbD 5 || w.energy == x.energy) &&
    (!mask.getLsbD 6 || w.marginLow == x.marginLow) && (!mask.getLsbD 7 || w.stalled == x.stalled) &&
    (!mask.getLsbD 8 || w.testing == x.testing)

/-- The watch state after a comparison (R51). -/
def watchNext (x : WatchState) (hit : Bool) : WatchState :=
  if hit then .armed else match x with
    | .unarmed => .unarmed
    | .armed => .tripped
    | .tripped => .tripped

/-- Comparison is suspended from the grant to release end, that is while the port is in TEST (R54, R88). -/
def Port.suspended (q : Port) : Bool := q.state == .test

/-- Does the watch match the port's present word? -/
def Port.hit (q : Port) : Bool := matchesWord q.watch.mask q.watch.expectation q.word

/-- Write the watch state. -/
def Port.setWatchState (q : Port) (x : WatchState) : Port := { q with watch := { q.watch with state := x } }

/-- The watch after a comparison of the port's present word (R51). -/
def Port.compare (q : Port) : Port := q.setWatchState (watchNext q.watch.state q.hit)

/-- The watch set to UNARMED and, outside TEST, compared at once (R53 for SET_WATCH, R62 for a warm restart). -/
def Port.rearm (q : Port) : Port :=
  let q := q.setWatchState .unarmed
  if q.suspended then q else q.compare

/-! ### Flags and counters (sections 2.9, 3.4) -/

/-- The kind of a flagged event. -/
def FlagEvent.kind : FlagEvent → EventKind
  | .linkUp => .linkUp | .linkDown _ => .linkDown | .trainFail => .trainFail | .downshift => .downshift
  | .stall _ => .stall | .exchangeTimeout => .exchangeTimeout | .marginLow => .marginLow | .departure => .departure
  | .testDone _ => .testDone

/-- Set the flag of a kind (R55). -/
def Port.setFlag (q : Port) (k : EventKind) : Port := { q with flags := addKind q.flags k }

/-- Is the event an auto-diagnosis trigger under these auto_triggers (R60)? LINK_DOWN only with cause SIGNAL_LOST or
MARGIN; the five other kinds never. -/
def isTrigger (triggers : KindSet) : FlagEvent → Bool
  | .stall _ => hasKind triggers .stall
  | .trainFail => hasKind triggers .trainFail
  | .linkDown .signalLost | .linkDown .margin => hasKind triggers .linkDown
  | .departure => hasKind triggers .departure
  | .linkDown .admin | .linkDown .restart | .linkDown .test => false
  | .linkUp | .downshift | .exchangeTimeout | .marginLow | .testDone _ => false

/-- link_ups rises by 1, holding at 65535 (R28). -/
def Port.countLinkUp (q : Port) : Port :=
  { q with counters := { q.counters with linkUps := bump 65535 q.counters.linkUps } }

/-- exchange_timeouts rises by 1, holding at 65535 (R22). -/
def Port.countTimeout (q : Port) : Port :=
  { q with counters := { q.counters with exchangeTimeouts := bump 65535 q.counters.exchangeTimeouts } }

/-- train_failures rises by 1, holding at 65535 (R31). -/
def Port.countTrainFailure (q : Port) : Port :=
  { q with counters := { q.counters with trainFailures := bump 65535 q.counters.trainFailures } }

/-- downshifts rises by 1, holding at 65535 (R31). -/
def Port.countDownshift (q : Port) : Port :=
  { q with counters := { q.counters with downshifts := bump 65535 q.counters.downshifts } }

/-- What every LINK_DOWN records: link_drops rises and the cause is stored (R44). -/
def Port.recordDown (q : Port) (c : DownCause) : Port :=
  { q with lastDown := some c, counters := { q.counters with linkDrops := bump 65535 q.counters.linkDrops } }

/-! ### The transmitter (R1) -/

/-- The own page word of port `p`: the page in sending and the own ACK (R13). A null page has tag 0. The spec does not
state its data value, which is the free value `Config.nullPageData` (DESIGN CHOICE, entry 24). -/
def Port.pageWord (p : PortId) (q : Port) : Option PageWord :=
  q.sending.map (fun x =>
    { tag := (x.page.map (·.tag)).getD 0, data := (x.page.map (·.data)).getD (Config.nullPageData p q.draws),
      more := x.more, parity := x.parity, ack := q.ownAck })

/-- The transmitter output that the link state of port `p` calls for (table of section 1.1). -/
def Port.output (p : PortId) (q : Port) : TxOutput :=
  match q.state with
  | .disabled | .holdoff | .stalled => .off
  | .listen => .presence
  | .offer => .offerWord q.ownOffer
  | .extend => .pageWord (q.pageWord p)
  | .train => .training q.training
  | .up => .data
  | .test => .engine

/-- The output of a port's transmitter: off while RESET is low (R189). -/
def State.output (s : State) (p : PortId) : TxOutput := if s.resetLow then .off else (s.port p).output p

end Sys2Proof.Machine
end

