-- ==== Sys2Proof/Machine/Reports.lean ====
section
/-! DEFINITION. The report queue (chapter 9): port and device entries, coalescing, holds and fetching. -/

namespace Sys2Proof.Machine

/-! ### Entries -/

/-- A new port entry with no kinds and no hold. -/
def newEntry (p : PortId) (w : CondWord) : PortEntry :=
  { port := p, kinds := 0, word := w, downCause := none, stallCause := none, summary := none, hold := none }

/-- An event joins an entry: its kind, its word, and its detail in place of the detail of the same kind (R154). -/
def PortEntry.join (x : PortEntry) (ev : FlagEvent) (w : CondWord) : PortEntry :=
  let x := { x with kinds := addKind x.kinds ev.kind, word := w }
  match ev with
  | .linkDown c => { x with downCause := some c }
  | .stall c => { x with stallCause := some c }
  | .testDone y => { x with summary := some y }
  | .linkUp | .trainFail | .downshift | .exchangeTimeout | .marginLow | .departure => x

/-- Is this the entry of a port? -/
def Entry.isFor (p : PortId) : Entry → Bool
  | .port x => x.port == p
  | .device _ => false

/-- Is this the device entry? -/
def Entry.isDevice : Entry → Bool
  | .port _ => false
  | .device _ => true

/-- Is this entry held? The device entry never is (R153). -/
def Entry.held : Entry → Bool
  | .port x => x.hold.isSome
  | .device _ => false

/-- The entry of a port, if it has one. -/
def entryOf (p : PortId) : List Entry → Option PortEntry
  | [] => none
  | .port x :: rest => if x.port = p then some x else entryOf p rest
  | .device _ :: rest => entryOf p rest

/-- Change a port's entry in place, keeping every place. -/
def mapEntry (p : PortId) (f : PortEntry → PortEntry) : List Entry → List Entry
  | [] => []
  | .port x :: rest => if x.port = p then .port (f x) :: rest else .port x :: mapEntry p f rest
  | .device d :: rest => .device d :: mapEntry p f rest

/-- A port event reaches the queue: it joins the port's entry, or appends a new one at the tail (R154). -/
def addEvent (p : PortId) (ev : FlagEvent) (w : CondWord) (r : List Entry) : List Entry :=
  match entryOf p r with
  | some _ => mapEntry p (fun x => x.join ev w) r
  | none => r ++ [.port ((newEntry p w).join ev w)]

/-! ### The device entry (R155) -/

/-- The faulted engine set of one engine. -/
def oneEngine (e : EngineId) : BitVec 4 := 1#4 <<< e.val

/-- ENGINE_FAULT for one engine: the engine joins the device entry's set, or a new device entry is appended. -/
def addFault (e : EngineId) : List Entry → List Entry
  | [] => [.device { restart := none, faults := oneEngine e }]
  | .device d :: rest => .device { d with faults := d.faults ||| oneEngine e } :: rest
  | .port x :: rest => .port x :: addFault e rest

/-! ### Holds (R157, R159) -/

/-- Attach a hold: to the port's unheld entry, to no entry that is held already, or to a new entry with no kinds. The last
case comes about when a FETCH_REPORTS between the trigger's report and this notice has taken the entry (R157, R162). -/
def attachHold (p : PortId) (number : Nat) (w : CondWord) (r : List Entry) : List Entry :=
  match entryOf p r with
  | some x => if x.hold.isNone then mapEntry p (fun x => { x with hold := some number }) r else r
  | none => r ++ [.port { newEntry p w with hold := some number }]

/-- The three conditions of a hold (R157): a triggering kind, hold_reports yes, and the kind in report_enables. -/
def holdWanted (q : Profile) (kind : Option EventKind) : Bool :=
  match kind with
  | none => false
  | some k => q.holdReports && hasKind q.reportEnables k

/-- A test completes (R159): if the port's entry is held for this number, TEST_DONE and the summary join it, its word
becomes the port's, and the hold is removed. Otherwise nothing. -/
def releaseHold (p : PortId) (number : Nat) (x : Summary) (w : CondWord) (r : List Entry) : List Entry :=
  match entryOf p r with
  | some y => if y.hold = some number then mapEntry p (fun z => { z.join (.testDone x) w with hold := none }) r else r
  | none => r

/-- The hold mark of a test record: its port's entry is held for its number (R152). -/
def State.holdMark (s : State) (r : TestRecord) : Bool :=
  match entryOf r.port s.reports with
  | some x => x.hold == some r.number
  | none => false

/-! ### Fetching (R161) -/

/-- The first `n` unheld entries, oldest first. -/
def fetched : Nat → List Entry → List Entry
  | _, [] => []
  | 0, _ :: _ => []
  | n + 1, x :: rest => if x.held then fetched (n + 1) rest else x :: fetched n rest

/-- What is left when they are taken, in order. -/
def leftAfter : Nat → List Entry → List Entry
  | _, [] => []
  | 0, x :: rest => x :: rest
  | n + 1, x :: rest => if x.held then x :: leftAfter (n + 1) rest else leftAfter n rest

/-- How many of the entries are held. -/
def heldCount (r : List Entry) : Nat := (r.filter Entry.held).length

/-- The report queue takes a FETCH_REPORTS: up to six unheld entries leave at once, oldest first (R161). -/
def State.takeReports (s : State) : State × Fetched :=
  let left := leftAfter 6 s.reports
  (s.setReports left,
    { given := fetched 6 s.reports, unheld := left.length - heldCount left, held := heldCount left })

/-! ### A FETCH_REPORTS that comes together with another event (R162) -/

/-- The frame that the command at the front of the queue brings to its owner at once: a request or the last character of
a good frame on a free line, or the departure of a reply with the frame next in the inbox (R183). -/
def State.frameAtHand (s : State) : Option Frame :=
  match s.resetLow, s.pending, s.sender, s.overflow, s.inbox with
  | false, .replySent :: _, .sending _ none, none, f :: _ => some f
  | false, .mrxCharacter c false :: _, .idle, none, [] =>
    match s.receiver with
    | .frame (some n) bytes => goodFrame n (bytes ++ [c])
    | .frame none _ | .hunt => none
  | false, c :: _, .idle, none, [] => c.request.map (fun x => x.2.frame x.1)
  | _, _, _, _, _ => none

/-- Is the command at the front of the queue a FETCH_REPORTS that its owner takes at once? -/
def State.fetchAtHand (s : State) : Bool :=
  match s.frameAtHand with
  | some f => parseRequest f.kind f.body == .request .fetchReports
  | none => false

/-- The report queue takes the FETCH_REPORTS at hand. Its reply is made at its own step, from what it has taken here. -/
def State.fetchNow (s : State) : State := s.takeReports.1.setFetch (some s.takeReports.2)

/-- The moment before a hold is attached: a FETCH_REPORTS at hand that is not taken yet may be taken first (R157, R162).
Which of the two comes first is the free value `Config.fetchFirst` (entry 25). -/
def State.meetFetch (s : State) : State :=
  if s.fetchAtHand && s.fetch.isNone then
    let t := s.setChoices (s.choices + 1)
    if Config.fetchFirst s.choices then t.fetchNow else t
  else s

/-! ### State operations -/

/-- Steps 1 and 2 of R58: set the flag, and hand the event to the report queue if report_enables holds its kind. -/
def State.flagAndReport (s : State) (p : PortId) (ev : FlagEvent) : State :=
  let s := s.modPort p (fun q => q.setFlag ev.kind)
  if hasKind (s.profile p).reportEnables ev.kind then s.setReports (addEvent p ev (s.port p).word s.reports) else s

/-- The hold notice of a submission (R157), a FETCH_REPORTS that comes together with it taken before it or after (R162). -/
def State.holdNotice (s : State) (p : PortId) (number : Nat) (kind : Option EventKind) : State :=
  if holdWanted (s.profile p) kind then
    s.meetFetch.setReports (attachHold p number (s.port p).word s.meetFetch.reports)
  else s

end Sys2Proof.Machine
end

