-- ==== Sys2Proof/Machine/TestQueue.lean ====
section
/-! DEFINITION. The test queue (chapter 4): numbers, completion and the summary, submissions and merging, recheck
timers, and the three steps of a flagged event (R58) that lead into it. -/

namespace Sys2Proof.Machine

/-! ### Test numbers (R64) -/

/-- The number after n: 65535 is followed by 1. -/
def nextTestNumber (n : Nat) : Nat := if 65535 ≤ n then 1 else n + 1

/-- The first number from n on that no record in the queue holds, tried at most `fuel` times. With at most 48 records
49 tries find one. -/
def freeNumber (queue : List TestRecord) : Nat → Nat → Nat
  | 0, n => n
  | fuel + 1, n => if queue.any (fun r => r.number == n) then freeNumber queue fuel (nextTestNumber n) else n

/-- The number the next created record takes. -/
def State.takeNumber (s : State) : Nat := freeNumber s.queue (s.queue.length + 1) s.nextNumber

/-! ### The summary (R79) -/

/-- The rank of a class, 1 the worst. -/
def PairClass.rank : PairClass → Nat
  | .short => 1 | .crossShort => 2 | .opened => 3 | .lowImpedance => 4 | .highImpedance => 5 | .noisy => 6
  | .normal => 7 | .notTested => 8

/-- A pair that was not measured. -/
def notTested (x : Pair) : PairRecord := { pair := x, cls := .notTested, measured := none, echo := none, partner := none }

/-- Four pairs that were not measured. -/
def noPairs : Quad PairRecord := ⟨notTested .a, notTested .b, notTested .c, notTested .d⟩

/-- The worse of two pair records, the earlier one where they share a rank. -/
def worse (x y : PairRecord) : PairRecord := if y.cls.rank < x.cls.rank then y else x

/-- The pair with the worst class, the earliest letter winning. -/
def worstPair (q : Quad PairRecord) : PairRecord := worse (worse (worse q.a q.b) q.c) q.d

/-- The summary of a test with these pair records. -/
def summaryOf (number : Nat) (outcome : TestOutcome) (q : Quad PairRecord) : Summary :=
  let x := worstPair q
  { number, outcome, worst := x.cls, pair := x.pair, distance := x.echo.map (·.distance) }

/-! ### Completion (R78) -/

/-- A record completes: it leaves the queue, the port takes TEST_DONE with the summary (never a trigger), and the report
queue is told of the completion. -/
def State.completeRecord (s : State) (r : TestRecord) (outcome : TestOutcome) (pairs : Quad PairRecord) : State :=
  let x := summaryOf r.number outcome pairs
  let s := s.setQueue (s.queue.filter (fun y => y.number != r.number))
  let s := s.flagAndReport r.port (.testDone x)
  s.setReports (releaseHold r.port r.number x (s.port r.port).word s.reports)

/-! ### Creation and merging (R66, R68 to R70) -/

/-- The record of an auto or recheck submission, from the profile (R68). -/
def submitted (q : Profile) (p : PortId) (number : Nat) (kind : Option EventKind) : TestRecord :=
  { number, port := p, origin := if kind.isSome then .auto else .recheck, reach := q.autoReach, avg := q.autoAvg,
    capture := q.autoCapture, priority := if kind.isSome then q.autoPriority else q.recheckPriority, allowDrop := true,
    state := .pending }

/-- Raise the priority of the record with this number to at least `y`. -/
def raiseTo (number y : Nat) (queue : List TestRecord) : List TestRecord :=
  queue.map (fun r => if r.number = number then { r with priority := max r.priority y } else r)

/-- A submission merges into the record it finds (R69). A rise of a PENDING record calls for a grant pass. -/
def State.merge (s : State) (r : TestRecord) (y : Nat) : State :=
  let s := if r.priority < y ∧ r.state = .pending then s.duePass true else s
  s.setQueue (raiseTo r.number y s.queue)

/-- An auto submission (with its triggering kind) or a recheck submission (with none), by the first case of R68 that
applies: it merges, completes at once for want of an engine (R70), or creates a PENDING record and calls for a grant
pass. The report queue is told of it each time (R157), before a completion (R160). -/
def State.submit (s : State) (p : PortId) (kind : Option EventKind) : State :=
  let q := s.profile p
  match s.recordOf p with
  | some r => (s.merge r (if kind.isSome then q.autoPriority else q.recheckPriority)).holdNotice p r.number kind
  | none =>
    let r := submitted q p s.takeNumber kind
    let s := s.setNextNumber (nextTestNumber r.number)
    if s.bankReached (bankOf p) then
      ((s.setQueue (s.queue ++ [r])).holdNotice p r.number kind).duePass true
    else
      (s.holdNotice p r.number kind).completeRecord r .noEngine noPairs

/-! ### Flagged events and changes of a port (R45, R51, R58) -/

/-- The three steps of a flagged event (R58). -/
def State.flagEvent (s : State) (p : PortId) (ev : FlagEvent) : State :=
  let trigger := isTrigger (s.profile p).autoTriggers ev
  let s := s.flagAndReport p ev
  if trigger then s.submit p (some ev.kind) else s

/-- Flagged events of one change, in order. -/
def State.flagEvents (s : State) (p : PortId) (evs : List FlagEvent) : State :=
  evs.foldl (fun s ev => s.flagEvent p ev) s

/-- A departure: an ARMED watch that does not match, outside suspension (R51, R52). -/
def Port.departs (q : Port) : Bool := q.watch.state == .armed && !q.hit

/-- The condition word is offered to the watch if it differs from `old`, unless comparison is suspended (R51, R54). A
departure is a flagged event of its own. -/
def State.offerWord (s : State) (p : PortId) (old : CondWord) : State :=
  let q := s.port p
  if q.suspended ∨ q.word = old then s
  else
    let s := s.setPort p q.compare
    if q.departs then s.flagEvent p .departure else s

/-- One change of a port (R45, R58): the record changes, the flagged events follow in order with the new word, and then
the new word is offered to the watch. -/
def State.change (s : State) (p : PortId) (f : Port → Port) (evs : List FlagEvent) : State :=
  ((s.modPort p f).flagEvents p evs).offerWord p (s.port p).word

/-! ### Recheck timers (R71, R72) -/

/-- Load a recheck timer: stopped if recheck_s is 0. -/
def loadedRecheck (q : Profile) : Option Nat := if q.recheckS = 0 then none else some q.recheckS

/-- The recheck timer after an expiry: REPEAT loads it again, ONCE stops it. -/
def recheckAfterExpiry (q : Profile) : Option Nat :=
  match q.recheckMode with
  | .repeat => loadedRecheck q
  | .once => none

/-! ### Aging (R73) -/

/-- The aging clock of a record runs while it is PENDING with priority below 6. -/
def TestRecord.ages (r : TestRecord) : Bool := r.state == .pending && decide (r.priority < 6)

/-- The record with this number rises by one level. -/
def ageRecord (number : Nat) (queue : List TestRecord) : List TestRecord :=
  queue.map (fun r => if r.number = number then { r with priority := r.priority + 1 } else r)

end Sys2Proof.Machine
end

