-- ==== Sys2Proof/Machine/Analysis.lean ====
section
/-! DEFINITION. The echo analysis of one run (chapter 7), in exact integers. Divisors are positive, so `/` on integers
rounds toward minus infinity (the floor of R104, R118), and `Int.tdiv` rounds toward zero (R121). -/

namespace Sys2Proof.Machine

/-! ### Run reaches (R107) -/

/-- The run reach of a run, from the record's reach. -/
def runReach (x : Reach) (run : Run) : RunReach :=
  match x, run with
  | .short, _ => .short
  | .medium, _ => .medium
  | .long, _ => .long
  | .auto, .first => .medium
  | .auto, .rerun => .long

/-- The pulse width of a run reach, in ns. -/
def pulseNs : RunReach → Nat
  | .short => 4 | .medium => 8 | .long => 16

/-- The window of a run reach, in samples. -/
def window : RunReach → Nat
  | .short => 256 | .medium => 640 | .long => 1024

/-- The blanking count of a run reach, in samples. -/
def blanking : RunReach → Nat
  | .short => 8 | .medium => 12 | .long => 20

/-! ### Steps 1 to 3: from sums to compensated values (R118 to R121) -/

/-- Step 3a: the loss factor at an index (R120). -/
def lossFactor (slope i : Nat) : Nat := 1024 + slope * i / 16

/-- Hold a value to the range of a compensated value (R121). -/
def saturate (x : Int) : Int := if 32767 < x then 32767 else if x < -32768 then -32768 else x

/-- The compensated value of a sum at an index, with N launches, baseline b and the loss slope (R118 to R121). -/
def compensated (slope n : Nat) (b : Int) (i : Nat) (sum : Int) : Int :=
  saturate (Int.tdiv ((sum / (n : Int) - b) * (lossFactor slope i : Int)) 1024)

/-- The compensated list of a pair, from index i on (R122). -/
def compensatedFrom (slope n : Nat) (b : Int) : Nat → List Int → List Int
  | _, [] => []
  | i, x :: rest => compensated slope n b i x :: compensatedFrom slope n b (i + 1) rest

/-! ### Steps 4 to 6: the echo on the pulsed pair (R123 to R125) -/

/-- The first value of magnitude at least `level` in a list whose first value has index i: its index and the list from
it on. -/
def firstAtLeast (level : Nat) : Nat → List Int → Option (Nat × List Int)
  | _, [] => none
  | i, x :: rest => if level ≤ x.natAbs then some (i, x :: rest) else firstAtLeast level (i + 1) rest

/-- Do two values have the same sign? Zero has none. -/
def sameSign (x y : Int) : Bool := (decide (0 < x) && decide (0 < y)) || (decide (x < 0) && decide (y < 0))

/-- Step 5, the peak scan: from the value reached, move on while the magnitude does not fall and the sign stays (R124).
Every value reached has the sign of the value at i0, so comparing with the last one compares with that. -/
def peakFrom (x : Int) : List Int → Int
  | [] => x
  | y :: rest => if x.natAbs ≤ y.natAbs ∧ sameSign x y = true then peakFrom y rest else x

/-- Step 6: the class of the pulsed pair's peak against hard_level (R125). -/
def peakClass (hard : Nat) (v : Int) : PairClass :=
  if (hard : Int) ≤ v then .opened
  else if v ≤ -(hard : Int) then .short
  else if 0 < v then .highImpedance
  else .lowImpedance

/-! ### Step 7: the cross-pair check (R126 to R129) -/

/-- The value of greatest magnitude of a list, the earliest of equals; 0 for the empty list. -/
def greatest : List Int → Int
  | [] => 0
  | x :: rest => if x.natAbs < (greatest rest).natAbs then greatest rest else x

/-- A pair qualifies when a value at index B or beyond has magnitude at least cross_level (R127). -/
def qualifies (cross blank : Nat) (c : List Int) : Bool := (c.drop blank).any (fun x => decide (cross ≤ x.natAbs))

/-- Of the pairs that qualify, the one with the greatest maximum, the earliest of equals (R128). -/
def bestPartner (cross blank : Nat) : List (Pair × List Int) → Option (Pair × List Int)
  | [] => none
  | (y, c) :: rest =>
    if qualifies cross blank c then
      match bestPartner cross blank rest with
      | some (z, d) =>
        if (greatest (c.drop blank)).natAbs < (greatest (d.drop blank)).natAbs then some (z, d) else some (y, c)
      | none => some (y, c)
    else bestPartner cross blank rest

/-! ### Step 8: distance (R131) -/

/-- The distance in cm of an index, with the launch lag of 6 samples taken off. -/
def distanceOf (velocity i0 : Nat) : Nat :=
  if i0 ≤ 6 then 0 else ((i0 - 6) * velocity * 2998 + 50000) / 100000

/-! ### The run (R130, R133) -/

/-- The result of a run (R133). -/
structure RunResult where
  cls : PairClass
  echo : Option Echo
  partner : Option Pair
deriving DecidableEq, Repr

/-- The pulsed pair's own class and echo, steps 4 to 6. -/
def ownResult (snap : Snapshot) (blank : Nat) (c : List Int) : RunResult :=
  match firstAtLeast snap.detectLevel blank (c.drop blank) with
  | some (i0, x :: rest) =>
    let v := peakFrom x rest
    { cls := peakClass snap.hardLevel v,
      echo := some { i0, peak := v, distance := distanceOf snap.velocity i0 }, partner := none }
  | _ => { cls := .normal, echo := none, partner := none }

/-- The four pairs with their compensated lists, less the pulsed pair. -/
def otherPairs (x : Pair) (c : Quad (List Int)) : List (Pair × List Int) :=
  [(Pair.a, c.a), (.b, c.b), (.c, c.c), (.d, c.d)].filter (fun y => y.1 != x)

/-- The result of a run from the four compensated lists (R130). -/
def classify (snap : Snapshot) (blank : Nat) (x : Pair) (c : Quad (List Int)) : RunResult :=
  match bestPartner snap.crossLevel blank (otherPairs x c) with
  | some (y, d) =>
    let i0 := ((firstAtLeast snap.crossLevel 0 d).map (·.1)).getD 0
    { cls := .crossShort,
      echo := some { i0, peak := greatest (d.drop blank), distance := distanceOf snap.velocity i0 },
      partner := some y }
  | none => ownResult snap blank (quadGet c x)

/-- The four compensated lists of a run. -/
def compensatedLists (snap : Snapshot) (n : Nat) (base : Quad Int) (sums : Quad (List Int)) : Quad (List Int) :=
  quadZip (fun b c => compensatedFrom snap.lossSlope n b 0 c) base sums

end Sys2Proof.Machine
end

