-- ==== Sys2Proof/Machine/Link.lean ====
section
/-! DEFINITION. The link state machine of one port as functions of its record and profile (chapters 1 and 2): entry to
each state, the offer exchange, extension pages, resolution, training and the downshift memory. -/

namespace Sys2Proof.Machine

/-- A transition's outcome: the new record and the flagged events it makes, in order (R58). -/
structure Moved where
  port : Port
  events : List FlagEvent

/-- A transition that flags nothing. -/
def quiet (q : Port) : Moved := { port := q, events := [] }

/-! ### The downshift memory (R30, R32) -/

/-- The failure count of a class. -/
def FailCounts.get (x : FailCounts) : Speed → Nat
  | .s100 => x.s100 | .s1g => x.s1g | .s2g5 => x.s2g5 | .s5g => x.s5g | .s10g => x.s10g

/-- Write the failure count of a class. -/
def FailCounts.set (x : FailCounts) (c : Speed) (n : Nat) : FailCounts :=
  match c with
  | .s100 => { x with s100 := n }
  | .s1g => { x with s1g := n }
  | .s2g5 => { x with s2g5 := n }
  | .s5g => { x with s5g := n }
  | .s10g => { x with s10g := n }

/-- Clear the memory: every count 0, every removed flag clear (R32). -/
def Port.clearMemory (q : Port) : Port := { q with failCounts := noFailures, removed := 0 }

/-- The effective set (R30). -/
def effectiveSet (r : Profile) (removed : SpeedSet) : SpeedSet :=
  match r.linkMode with
  | .exchange => r.allowed &&& ~~~removed
  | .forced => oneSpeed r.forced

/-! ### Leaving and entering states -/

/-- What leaving any link state for another drops: the timers, candidate, training and link values, stall cause and
return-to-stall mark of the state left. Passages among OFFER and EXTEND do not use it (R22, R7). -/
def Port.leave (q : Port) : Port :=
  { q with candidate := none, exchangeTimer := none, training := none, trainTimer := none, link := none,
           smoothed := none, samples := 0, marginLow := false, holdoff := none, absence := false, stallCause := none,
           returnToStall := false }

/-- Entry to DISABLED (R3). -/
def Port.enterDisabled (q : Port) : Port := { q.leave with state := .disabled }

/-- Entry to HOLDOFF: the wait starts with holdoff_ms read now (R33). -/
def Port.enterHoldoff (r : Profile) (q : Port) : Port := { q.leave with state := .holdoff, holdoff := some r.holdoffMs }

/-- A new stall's entry to STALLED; the energy-absence timer starts if ENERGY is 0 (R35). -/
def Port.enterStalled (c : StallCause) (q : Port) : Port :=
  { q.leave with state := .stalled, stallCause := some c, absence := !q.energy }

/-- The return from TEST to STALLED with the cause held at the grant; no flag (R35, R97). -/
def Port.returnStalled (q : Port) : Port :=
  { q.leave with state := .stalled, stallCause := q.stallCause, absence := !q.energy }

/-- The length of the training timer in ms (section 2.1). -/
def trainMs : Speed → Nat
  | .s100 => 250 | .s1g => 750 | .s2g5 => 2000 | .s5g => 2000 | .s10g => 2500

/-- Entry to TRAIN at a speed and role (R26). -/
def Port.enterTrain (c : Speed) (x : Role) (q : Port) : Port :=
  { q.leave with state := .train, training := some (c, x), trainTimer := some (trainMs c) }

/-- Entry to UP (R28). -/
def Port.enterUp (k : Link) (map : PairMap) (polarity : BitVec 4) (q : Port) : Port :=
  Port.countLinkUp
    { q.leave with state := .up, link := some k, pairMap := map, polarity := polarity,
                   failCounts := q.failCounts.set k.speed 0 }

/-- Entry to OFFER, every action of R8. The energy-absence timer is stopped outside LISTEN and STALLED (R38). -/
def Port.enterOffer (p : PortId) (r : Profile) (q : Port) : Port :=
  { q with
    state := .offer,
    ownOffer := some { speeds := effectiveSet r q.removed, roleClass := r.roleClass,
                       seed := Config.seedDraw p q.draws, hasPages := !q.pages.isEmpty, heard := false },
    draws := q.draws + 1, log := [], truncated := false, lastParity := none, ownAck := none, partnerDone := false,
    localDone := false, sending := none, nextParity := false, partnerOffer := none, candidate := none,
    exchangeTimer := some r.exchangeMs, absence := false }

/-- The role of FORCED mode (R6). -/
def forcedRole : RoleClass → Role
  | .forceLead | .preferLead => .lead
  | .forceFollow | .preferFollow => .follow

/-- Energy present in LISTEN: on to OFFER or, in FORCED mode, to TRAIN (R6). -/
def Port.goFromListen (p : PortId) (r : Profile) (q : Port) : Port :=
  match r.linkMode with
  | .exchange => q.enterOffer p r
  | .forced => Port.enterTrain r.forced (forcedRole r.roleClass) { q with partnerOffer := none }

/-- Entry to LISTEN (R5): the tie counter is 0; ENERGY 1 passes on at once, ENERGY 0 starts the energy-absence timer. -/
def Port.enterListen (p : PortId) (r : Profile) (q : Port) : Port :=
  if q.energy then Port.goFromListen p r { q.leave with state := .listen, tie := 0 }
  else { q.leave with state := .listen, tie := 0, absence := true }

/-- Entry to TEST (R88): a port that was STALLED keeps its cause and gets the return-to-stall mark; the watch is set to
UNARMED (R54). -/
def Port.enterTest (q : Port) : Port :=
  Port.setWatchState
    { q.leave with state := .test, stallCause := if q.state = .stalled then q.stallCause else none,
                   returnToStall := q.state == .stalled } .unarmed

/-! ### Resolution (R19 to R21) -/

/-- What the role table of R20 gives. -/
inductive RoleChoice where
  | role (x : Role)
  | conflict
  | bySeed
deriving DecidableEq, Repr

/-- The role table of R20, own class first. -/
def roleTable : RoleClass → RoleClass → RoleChoice
  | .forceLead, .forceLead => .conflict
  | .forceFollow, .forceFollow => .conflict
  | .forceLead, .forceFollow => .role .lead
  | .forceFollow, .forceLead => .role .follow
  | .forceLead, .preferLead => .role .lead
  | .forceLead, .preferFollow => .role .lead
  | .forceFollow, .preferLead => .role .follow
  | .forceFollow, .preferFollow => .role .follow
  | .preferLead, .forceLead => .role .follow
  | .preferFollow, .forceLead => .role .follow
  | .preferLead, .forceFollow => .role .lead
  | .preferFollow, .forceFollow => .role .lead
  | .preferLead, .preferFollow => .role .lead
  | .preferFollow, .preferLead => .role .follow
  | .preferLead, .preferLead => .bySeed
  | .preferFollow, .preferFollow => .bySeed

/-- The role of two offer words: by the table, and by seed where it says so; none in a tie (R20). -/
def resolveRole (own partner : OfferWord) : Option RoleChoice :=
  match roleTable own.roleClass partner.roleClass with
  | .bySeed =>
    if partner.seed.toNat < own.seed.toNat then some (.role .lead)
    else if own.seed.toNat < partner.seed.toNat then some (.role .follow)
    else none
  | x => some x

/-- A new stall with its flagged event (R35). -/
def Port.stall (c : StallCause) (q : Port) : Moved := { port := q.enterStalled c, events := [.stall c] }

/-- A role tie: the seventh in a row stalls, any other re-enters OFFER (R21). -/
def Port.tied (p : PortId) (r : Profile) (q : Port) : Moved :=
  let q := { q with tie := q.tie + 1 }
  if 7 ≤ q.tie then q.stall .roleTie else quiet (q.enterOffer p r)

/-- Resolution of speed and role from the own offer word and the stored partner offer (R19 to R21). -/
def Port.resolve (p : PortId) (r : Profile) (q : Port) : Moved :=
  match q.ownOffer, q.partnerOffer with
  | some own, some partner =>
    match highestSpeed (own.speeds &&& partner.speeds) with
    | none => q.stall .noCommonSpeed
    | some c =>
      match resolveRole own partner with
      | some (.role x) => quiet (Port.enterTrain c x { q with tie := 0 })
      | some _ => q.stall .roleConflict
      | none => q.tied p r
  | _, _ => q.stall .noCommonSpeed

/-! ### Extension pages (R13 to R16) -/

/-- The head of the local page queue goes into sending, marked; a null page if the queue is empty (R13). -/
def Port.startSending (q : Port) : Port :=
  match q.pages with
  | g :: rest => { q with sending := some { page := some g, more := !rest.isEmpty, parity := q.nextParity },
                          nextParity := !q.nextParity }
  | [] => { q with sending := some { page := none, more := false, parity := q.nextParity } }

/-- Entry to EXTEND (R13); the exchange timer and the acceptance candidate are kept (R7, R22). -/
def Port.enterExtend (q : Port) : Port := Port.startSending { q with state := .extend, nextParity := false }

/-- The page in sending is acknowledged (R14). -/
def Port.acknowledged (x : Sending) (q : Port) : Port :=
  match x.page with
  | none => { q with localDone := true }
  | some _ =>
    let q := { q with pages := q.pages.tail }
    if x.more && !q.pages.isEmpty then q.startSending
    else { q with localDone := true, sending := some { page := none, more := false, parity := x.parity } }

/-- An accepted PAGE word as an acknowledgement (R14); nothing once local-done is 1. -/
def Port.takeAck (w : PageWord) (q : Port) : Port :=
  match q.sending with
  | some x => if !q.localDone && w.ack == some x.parity then q.acknowledged x else q
  | none => q

/-- The partner page log takes a new page: appended while it holds fewer than 8, else TRUNCATED; a null page not (R15). -/
def Port.logPage (w : PageWord) (q : Port) : Port :=
  if w.tag = 0 then q
  else if q.log.length < 8 then { q with log := q.log ++ [{ tag := w.tag, data := w.data }] }
  else { q with truncated := true }

/-- An accepted PAGE word as a partner page (R15). -/
def Port.takePage (w : PageWord) (q : Port) : Port :=
  let q := if q.lastParity = some w.parity then q
           else Port.logPage w { q with lastParity := some w.parity, ownAck := some w.parity }
  if w.more then q else { q with partnerDone := true }

/-- A PAGE word accepted in EXTEND: acknowledgement, partner page, completion, in that order (R16). -/
def Port.acceptPage (p : PortId) (r : Profile) (w : PageWord) (q : Port) : Moved :=
  let q := (q.takeAck w).takePage w
  if q.localDone && q.partnerDone then q.resolve p r else quiet q

/-! ### The OFFER phase (R9, R10) -/

/-- Does either offer word carry HAS_PAGES 1? -/
def Port.anyPages (q : Port) : Bool :=
  (q.ownOffer.map (·.hasPages)).getD false || (q.partnerOffer.map (·.hasPages)).getD false

/-- The OFFER phase completes: to EXTEND, or to resolution (R9). -/
def Port.completeOffer (p : PortId) (r : Profile) (q : Port) : Moved :=
  if q.anyPages then quiet q.enterExtend else q.resolve p r

/-- Own HEARD (R8, R9). -/
def Port.heard (q : Port) : Bool := (q.ownOffer.map (·.heard)).getD false

/-- An OFFER word accepted in OFFER (R9). -/
def Port.acceptOffer (p : PortId) (r : Profile) (w : OfferWord) (q : Port) : Moved :=
  let q := { q with partnerOffer := some w, ownOffer := q.ownOffer.map (fun x => { x with heard := true }) }
  if w.heard then q.completeOffer p r else quiet q

/-- A PAGE word accepted in OFFER (R10). -/
def Port.pageInOffer (p : PortId) (r : Profile) (w : PageWord) (q : Port) : Moved :=
  if !q.heard then quiet q
  else if q.anyPages then q.enterExtend.acceptPage p r w
  else q.resolve p r

/-- A partner word accepted in OFFER or EXTEND (R9, R10, R16, R17). -/
def Port.accept (p : PortId) (r : Profile) (w : PartnerWord) (q : Port) : Moved :=
  match q.state, w with
  | .offer, .offer o => q.acceptOffer p r o
  | .offer, .page g => q.pageInOffer p r g
  | .extend, .offer _ => quiet (q.enterOffer p r)
  | .extend, .page g => q.acceptPage p r g
  | _, _ => quiet q

/-- One partner word through the acceptance filter (R7); discarded outside OFFER and EXTEND (R4). -/
def Port.hear (p : PortId) (r : Profile) (w : PartnerWord) (q : Port) : Moved :=
  if q.state = .offer ∨ q.state = .extend then
    match q.candidate with
    | some (x, n) =>
      if x = w then
        if n < 3 then
          if n + 1 = 3 then Port.accept p r w { q with candidate := some (w, 3) }
          else quiet { q with candidate := some (w, n + 1) }
        else quiet q
      else quiet { q with candidate := some (w, 1) }
    | none => quiet { q with candidate := some (w, 1) }
  else quiet q

/-! ### Training and the live link (chapter 2) -/

/-- Step 1 of R31 on the record: train_failures and the failure count of the speed rise. -/
def Port.countFailure (c : Speed) (q : Port) : Port :=
  Port.countTrainFailure { q with failCounts := q.failCounts.set c (bump 255 (q.failCounts.get c)) }

/-- Does R31 decide on a removal or stall? Read after the count has risen. -/
def removalDue (r : Profile) (c : Speed) (q : Port) : Bool :=
  (r.linkMode == .exchange) && (r.downshiftAfter != 0) && decide (r.downshiftAfter ≤ q.failCounts.get c) &&
    hasSpeed (effectiveSet r q.removed) c

/-- A training failure at a speed (R31). -/
def Port.trainingFailure (r : Profile) (c : Speed) (q : Port) : Moved :=
  let q := q.countFailure c
  if removalDue r c q then
    if lowestSpeed (effectiveSet r q.removed) = some c then
      { port := q.enterStalled .trainingExhausted, events := [.trainFail, .stall .trainingExhausted] }
    else
      { port := Port.enterHoldoff r (Port.countDownshift { q with removed := q.removed ||| oneSpeed c }),
        events := [.trainFail, .downshift] }
  else { port := q.enterHoldoff r, events := [.trainFail] }

/-- The smoothed margin after a sample (R40). -/
def smoothedAfter (m : Option Nat) (x : Nat) : Nat :=
  match m with
  | none => x
  | some m => (7 * m + x + 4) / 8

/-- The margin alarm after a sample: MARGIN_LOW against margin_alarm with hysteresis (R41). -/
def alarmAfter (r : Profile) (low : Bool) (m : Nat) : Bool :=
  if low then !decide (r.marginAlarm + r.marginHyst ≤ m) else decide (m < r.marginAlarm)

/-- A margin sample on an UP port, up to and including the alarm (R40, R41). -/
def Port.sample (r : Profile) (x : Nat) (q : Port) : Port :=
  let m := smoothedAfter q.smoothed x
  { q with samples := bump 65535 q.samples, smoothed := some m, marginLow := alarmAfter r q.marginLow m }

/-- Is a margin drop due after this sample (R42)? -/
def dropDue (r : Profile) (q : Port) : Bool :=
  (r.marginDrop != 0) && decide (5 ≤ q.samples) &&
    (match q.smoothed with
     | some m => decide (m < r.marginDrop)
     | none => false)

/-- A LINK_DOWN into HOLDOFF (R43, R39). -/
def Port.dropToHoldoff (r : Profile) (c : DownCause) (q : Port) : Moved :=
  { port := (q.recordDown c).enterHoldoff r, events := [.linkDown c] }

/-- A margin drop: LINK_DOWN with cause MARGIN, then a training failure at the link speed (R42). -/
def Port.marginDrop (r : Profile) (c : Speed) (q : Port) : Moved :=
  let m := (q.recordDown .margin).trainingFailure r c
  { m with events := .linkDown .margin :: m.events }

end Sys2Proof.Machine
end

