-- ==== Sys2Proof/Machine/Grants.lean ====
section
/-! DEFINITION. The arbiter and the ends of a test (chapter 5, sections 8.1 to 8.3): the grant pass, what a grant does,
writing a result, settling the trace slot, the abort, release end and the engine fault. -/

namespace Sys2Proof.Machine

/-! ### Choosing (R84) -/

/-- The lowest-numbered IDLE engine that reaches a bank. -/
def State.idleEngine (s : State) (b : BankId) : Option EngineId :=
  allEngines.find? (fun e => reaches e b && (s.engine e).state == .idle)

/-- May the pass choose this record: PENDING, its bank idle and reached by an IDLE engine? -/
def State.choosable (s : State) (r : TestRecord) : Bool :=
  r.state == .pending && (s.bank (bankOf r.port)).isNone && (s.idleEngine (bankOf r.port)).isSome

/-- The first record of the highest priority. -/
def bestRecord : List TestRecord → Option TestRecord
  | [] => none
  | r :: rest =>
    match bestRecord rest with
    | some x => if r.priority < x.priority then some x else some r
    | none => some r

/-- The record a pass chooses next. -/
def State.choice (s : State) : Option TestRecord := bestRecord (s.queue.filter s.choosable)

/-! ### The grant (R86 to R88, R143) -/

/-- The lowest-numbered FREE slot. -/
def State.freeSlot (s : State) : Option SlotId := allSlots.find? (fun t => s.slot t == .free)

/-- The six profile fields an engine snapshots (R87). -/
def snapshotOf (q : Profile) : Snapshot :=
  { velocity := q.velocity, lossSlope := q.lossSlope, detectLevel := q.detectLevel, hardLevel := q.hardLevel,
    crossLevel := q.crossLevel, noiseLimit := q.noiseLimit }

/-- The record becomes RUNNING on an engine; its place and its other fields stay. -/
def runRecord (number : Nat) (e : EngineId) (queue : List TestRecord) : List TestRecord :=
  queue.map (fun r => if r.number = number then { r with state := .running e } else r)

/-- The PLU enters TEST; an UP port makes a LINK_DOWN with cause TEST, which is no trigger, and the suspended watch is
not offered the word (R54, R88). -/
def State.portToTest (s : State) (p : PortId) : State :=
  if (s.port p).state = .up then
    (s.modPort p (fun q => (q.recordDown .test).enterTest)).flagEvent p (.linkDown .test)
  else s.modPort p Port.enterTest

/-- An engine that takes up a test (R87, step 5). -/
def engineFor (s : State) (r : TestRecord) (slot : Option SlotId) : Engine :=
  { coldEngine with
    state := .connect,
    job := some { port := r.port, number := r.number, reach := r.reach, avg := r.avg, capture := r.capture, slot,
                  snap := snapshotOf (s.profile r.port) } }

/-- The slot claim of a capture test (R143): the slot becomes FILLING. -/
def State.claim (s : State) (e : EngineId) (number : Nat) (slot : Option SlotId) : State :=
  match slot with
  | some t => s.setSlot t (.filling e number)
  | none => s

/-- The slot a grant claims: the lowest-numbered FREE one if capture is yes. -/
def State.slotFor (s : State) (r : TestRecord) : Option SlotId := if r.capture then s.freeSlot else none

/-- A grant that uses the engine, its five changes in order (R87). -/
def State.grantEngine (s : State) (r : TestRecord) (e : EngineId) : State :=
  let s := s.setQueue (runRecord r.number e s.queue)
  let s := s.setBank (bankOf r.port) (some { port := r.port, engine := e })
  let s := s.portToTest r.port
  let slot := s.slotFor r
  let s := s.claim e r.number slot
  s.setEngine e (engineFor s r slot)

/-- A grant: SKIPPED_LINK_UP for an UP port that may not be dropped (R86), else the engine is used (R87). -/
def State.grant (s : State) (r : TestRecord) (e : EngineId) : State :=
  if (s.port r.port).state = .up ∧ r.allowDrop = false then s.completeRecord r .skippedLinkUp noPairs
  else s.grantEngine r e

/-- One choice of the pass with its grant; none when no choice can be made. -/
def State.passOnce (s : State) : Option State :=
  match s.choice with
  | none => none
  | some r =>
    match s.idleEngine (bankOf r.port) with
    | none => none
    | some e => some (s.grant r e)

/-- At most `fuel` choices. -/
def State.passFuel : Nat → State → State
  | 0, s => s
  | fuel + 1, s =>
    match s.passOnce with
    | none => s
    | some t => State.passFuel fuel t

/-- A grant pass (R84): it repeats until no choice can be made. Each choice takes a record out of PENDING, so as many
rounds as there are records are enough. -/
def State.grantPass (s : State) : State := s.passFuel s.queue.length

/-- The end of a cause: the grant pass that its submissions called for (R58). -/
def State.settle (s : State) : State := if s.passDue then (s.duePass false).grantPass else s

/-! ### The end of a granted test (R93 to R95, R139, R144, R145) -/

/-- The trace disposition (R139). -/
def dispositionOf (j : Job) (outcome : TestOutcome) : Disposition :=
  if j.capture then
    match j.slot with
    | none => .traceNone
    | some _ => if outcome = .complete ∨ outcome = .partnerActive then .held else .discarded
  else .notRequested

/-- The result record of a test that ends (R137). -/
def resultOf (r : TestRecord) (j : Job) (outcome : TestOutcome) (pairs : Quad PairRecord) : ResultRecord :=
  { port := r.port, number := r.number, origin := r.origin, reach := r.reach, avg := r.avg,
    velocity := j.snap.velocity, outcome, disposition := dispositionOf j outcome,
    slot := if dispositionOf j outcome = .held then j.slot else none, pairs }

/-- The record of a pair among the finished ones, NOT_TESTED if it is not there (R112, R138). -/
def pairFrom (done : List PairRecord) (x : Pair) : PairRecord := (done.find? (fun y => y.pair == x)).getD (notTested x)

/-- The four pair records of a test that ends with these finished pairs. -/
def pairsFrom (done : List PairRecord) : Quad PairRecord :=
  ⟨pairFrom done .a, pairFrom done .b, pairFrom done .c, pairFrom done .d⟩

/-- One pair of a trace header: the pair record's reach used and the length of its list (R144). Every pair of a test
that ends COMPLETE or PARTNER_ACTIVE is finished and has a reach; MEDIUM stands for the absent one of any other. -/
def tracePair (x : PairRecord) (c : List Int) : TracePair :=
  { reach := (x.measured.map (·.reach)).getD .medium, count := c.length }

/-- The header of a slot that becomes HELD (R144). -/
def headerOf (j : Job) (pairs : Quad PairRecord) (lists : Quad (List Int)) : TraceHeader :=
  { number := j.number, port := j.port, pairs := quadZip tracePair pairs lists }

/-- A claimed slot becomes HELD with the buffer's content, or FREE (R144, R145). -/
def State.settleSlot (s : State) (j : Job) (outcome : TestOutcome) (pairs : Quad PairRecord)
    (lists : Quad (List Int)) : State :=
  match j.slot with
  | none => s
  | some t =>
    if outcome = .complete ∨ outcome = .partnerActive then s.setSlot t (.held (headerOf j pairs lists) lists)
    else s.setSlot t .free

/-- The engine as it enters RELEASE. The listen wait stops and sums are dropped (R115); the capture buffer is dropped
at an abort or a bus fault (R113). The rest of the measurement state stays until release end (R102); what it shows in
RELEASE the spec leaves open (DESIGN CHOICE, entry 23). -/
def releasing (x : Engine) (keepBuffer fault : Bool) : Engine :=
  { x with
    state := .release,
    meas := x.meas.map (fun m => { m with waiting := false, sums := sameQuad [] }),
    buffer := if keepBuffer then x.buffer else sameQuad [],
    faultPending := x.faultPending || fault }

/-- The end of a granted test on an engine: the result is written, the claimed slot settled, the record completes, and
the engine enters RELEASE, in this order (R93, R94, R95). -/
def State.endTest (s : State) (e : EngineId) (outcome : TestOutcome) (pairs : Quad PairRecord) : State :=
  let x := s.engine e
  let kept := outcome == .complete || outcome == .partnerActive
  match x.job with
  | none => s.setEngine e (releasing x kept (outcome == .busFault))
  | some j =>
    match s.recordNumbered j.number with
    | none => (s.settleSlot j outcome pairs x.buffer).setEngine e (releasing x kept (outcome == .busFault))
    | some r =>
      let s := s.setResult r.port (some (resultOf r j outcome pairs))
      let s := s.settleSlot j outcome pairs x.buffer
      let s := s.completeRecord r outcome pairs
      s.setEngine e (releasing x kept (outcome == .busFault))

/-- Is the engine measuring, so that an abort finds a running test (R95)? -/
def EngineState.measuring : EngineState → Bool
  | .connect | .listen | .pulse | .analyse => true
  | .idle | .release | .outOfService => false

/-- An abort: finished pairs keep their results, all others are NOT_TESTED (R95, R115). An engine that is not measuring
is left alone. -/
def State.abort (s : State) (e : EngineId) : State :=
  if (s.engine e).state.measuring then s.endTest e .aborted (pairsFrom (s.engine e).finished) else s

/-! ### Release end (R96 to R98) -/

/-- The port's return from TEST, chosen in this order (R97). -/
def Port.returnFromTest (r : Profile) (q : Port) : Port :=
  if q.enabled then
    if q.returnToStall then q.returnStalled else q.enterHoldoff r
  else q.enterDisabled

/-- The stranded-record check: every PENDING record whose bank is no longer reached completes with NO_ENGINE, in
submission order (R98). -/
def State.completeStranded (s : State) : State :=
  (s.queue.filter (fun r => r.state == .pending && !s.bankReached (bankOf r.port))).foldl
    (fun s r => s.completeRecord r .noEngine noPairs) s

/-- Step 3 of release end: the engine, its connection cleared, enters IDLE, or with a pending fault OUT_OF_SERVICE with
its report and the stranded-record check (R96, R98). -/
def State.freeEngine (s : State) (e : EngineId) : State :=
  if (s.engine e).faultPending then
    let s := s.setEngine e { coldEngine with state := .outOfService }
    (s.setReports (addFault e s.reports)).completeStranded
  else s.setEngine e coldEngine

/-- Steps 1 and 2 of release end: the bank becomes idle and the port leaves TEST (R96, R97). -/
def State.freePort (s : State) (p : PortId) : State :=
  (s.setBank (bankOf p) none).change p (Port.returnFromTest (s.profile p)) []

/-- Release end (R96); the pass that follows sees the bank idle and the engine IDLE unless withdrawn. -/
def State.releaseEnd (s : State) (e : EngineId) : State :=
  let t := match (s.engine e).job with
    | some j => s.freePort j.port
    | none => s
  ((t.freeEngine e).duePass false).grantPass

end Sys2Proof.Machine
end

