-- ==== Sys2Proof/Machine/Replies.lean ====
section
/-! DEFINITION. The bodies of replies, byte by byte (chapter 12): GET_PORT, result records, queue records, traces,
report entries and the summary. -/

namespace Sys2Proof.Machine

/-! ### Answers -/

/-- A request taken as sent. -/
def taken (body : List Byte) : Answer := { status := .ok, body, restart := none }

/-- A request taken, CLAMPED if a number was replaced by its limit (R65, R77, R147, R168). -/
def takenClamped (wasClamped : Bool) (body : List Byte) : Answer :=
  { status := if wasClamped then .clamped else .ok, body, restart := none }

/-- A refusal; its body is empty but for PORT_BUSY (R198). -/
def refuse (x : Status) : Answer := { status := x, body := [], restart := none }

/-! ### Optional items (R196) -/

/-- An item's bytes when it is present, as many zeros when it is absent. -/
def shown (present : Bool) (bytes : List Byte) : List Byte := if present then bytes else List.replicate bytes.length 0

/-- The byte of an optional item, 0 when it is absent. -/
def byteOr {α : Type} (f : α → Nat) : Option α → Byte
  | none => 0
  | some x => byteOf (f x)

/-- A byte of up to eight flags, bit 0 first. -/
def flagByte : List Bool → Byte
  | [] => 0
  | b :: rest => (flagByte rest <<< 1) ||| byteOfBool b

/-! ### GET_PORT (R190, R200) -/

/-- An offer word's five bytes (R200). -/
def offerBytes (w : OfferWord) : List Byte :=
  [speedByte w.speeds, byteOf w.roleClass.code] ++ bytes16 (w.seed.setWidth 16) ++ [flagByte [w.hasPages, w.heard]]

/-- An optional offer word. -/
def offerOr : Option OfferWord → List Byte
  | none => List.replicate 5 0
  | some w => offerBytes w

/-- The five counters in the order of section 12.4. -/
def counterBytes (x : Counters) : List Byte :=
  bytesOf16 x.linkUps ++ bytesOf16 x.linkDrops ++ bytesOf16 x.trainFailures ++ bytesOf16 x.exchangeTimeouts ++
    bytesOf16 x.downshifts

/-- Exchange progress is present in OFFER and EXTEND (R190). -/
def inExchange (q : Port) : Bool := q.state == .offer || q.state == .extend

/-- The stall cause is present in STALLED, and in TEST while the return-to-stall mark is set (R190). -/
def stallShown (q : Port) : Bool := q.stallCause.isSome && (q.state == .stalled || (q.state == .test && q.returnToStall))

/-- The presence byte of GET_PORT (R200). -/
def portPresence (q : Port) : Byte :=
  flagByte [q.ownOffer.isSome, q.partnerOffer.isSome, inExchange q, q.state == .train, q.state == .up,
            q.state == .up && q.smoothed.isSome, q.lastDown.isSome, stallShown q]

/-- Training speed and role, two bytes. -/
def trainingBytes (x : Option (Speed × Role)) : List Byte :=
  [byteOr (fun y : Speed × Role => y.1.code) x, byteOr (fun y : Speed × Role => y.2.code) x]

/-- Link speed, link role and trained margin, three bytes. -/
def linkBytes (x : Option Link) : List Byte :=
  [byteOr (fun y : Link => y.speed.code) x, byteOr (fun y : Link => y.role.code) x, byteOr (fun y : Link => y.margin) x]

/-- The 58 bytes of GET_PORT (R190, R200), in the order of their offsets. -/
def portBody (p : PortId) (r : Profile) (q : Port) : List Byte :=
  [portByte p, byteOf q.state.code, byteOfBool q.enabled] ++ bytes16 (encodeWord q.word) ++
    [speedByte (effectiveSet r q.removed), portPresence q, byteOf q.tie, byteOfBool q.returnToStall] ++
    bytesOf16 q.samples ++ counterBytes q.counters ++ setBytes q.flags ++ bytes16 (encodeWord q.watch.expectation) ++
    setBytes q.watch.mask ++
    [byteOf q.watch.state.code, byteOfBool q.suspended, byteOf q.pages.length, byteOf q.log.length,
     byteOfBool q.truncated, byteOf q.failCounts.s100, byteOf q.failCounts.s1g, byteOf q.failCounts.s2g5,
     byteOf q.failCounts.s5g, byteOf q.failCounts.s10g, speedByte q.removed] ++
    offerOr q.ownOffer ++ offerOr q.partnerOffer ++
    shown (inExchange q) [byteOf (ackCode q.ownAck), flagByte [q.localDone, q.partnerDone]] ++
    shown (q.state == .train) (trainingBytes q.training) ++ shown (q.state == .up) (linkBytes q.link) ++
    shown (q.state == .up) [byteOr id q.smoothed] ++ [byteOr DownCause.code q.lastDown] ++
    shown (stallShown q) [byteOr StallCause.code q.stallCause]

/-! ### GET_RESULT (R140, R201) -/

/-- Spread, attempts and reach of a measured pair: four bytes. -/
def measuredBytes : Option Measured → List Byte
  | none => List.replicate 4 0
  | some x => [byteOf x.reach.code, byteOf x.attempts] ++ bytesOf16 x.spread

/-- i0, peak and distance: six bytes. -/
def echoBytes : Option Echo → List Byte
  | none => List.replicate 6 0
  | some x => bytesOf16 x.i0 ++ bytesOfInt x.peak ++ bytesOf16 x.distance

/-- A pair record's 14 bytes. -/
def pairBytes (x : PairRecord) : List Byte :=
  [byteOf x.pair.code, byteOf x.cls.code, flagByte [x.measured.isSome, x.echo.isSome, x.partner.isSome]] ++
    measuredBytes x.measured ++ echoBytes x.echo ++ [byteOr Pair.code x.partner]

/-- Does the named slot still hold the record's trace (R140)? -/
def State.traceCurrent (s : State) (r : ResultRecord) : Bool :=
  match r.disposition, r.slot with
  | .held, some t =>
    match s.slot t with
    | .held h _ => h.number == r.number && h.port == r.port
    | .free => false
    | .filling _ _ => false
  | _, _ => false

/-- A result record's 69 bytes. -/
def resultBody (r : ResultRecord) (current : Bool) : List Byte :=
  [portByte r.port] ++ bytesOf16 r.number ++ [byteOf r.origin.code, byteOf r.reach.code, byteOf r.avg] ++
    bytesOf16 r.velocity ++
    [byteOf r.outcome.code, byteOf r.disposition.code, flagByte [r.slot.isSome],
     byteOr (fun t : SlotId => t.val + 1) r.slot, byteOfBool current] ++
    pairBytes r.pairs.a ++ pairBytes r.pairs.b ++ pairBytes r.pairs.c ++ pairBytes r.pairs.d

/-! ### GET_QUEUE (R77, R197) -/

/-- The engine of a record: absent while PENDING. -/
def RecordState.engine : RecordState → Option EngineId
  | .pending => none
  | .running e => some e

/-- A queue record's 12 bytes. -/
def recordBytes (holdMark : Bool) (r : TestRecord) : List Byte :=
  bytesOf16 r.number ++
    [portByte r.port, byteOf r.origin.code, byteOf r.reach.code, byteOf r.avg, byteOfBool r.capture, byteOf r.priority,
     byteOfBool r.allowDrop, byteOf r.state.code, flagByte [r.state.engine.isSome, holdMark],
     byteOr (fun e : EngineId => e.val + 1) r.state.engine]

/-- The GET_QUEUE body from a clamped first position: up to 12 records in submission order. -/
def State.queueBody (s : State) (first : Nat) : List Byte :=
  let rs := (s.queue.drop (first - 1)).take 12
  [byteOf s.queue.length] ++ bytesOf16 s.nextNumber ++ [byteOf rs.length] ++
    rs.flatMap (fun r => recordBytes (s.holdMark r) r)

/-! ### READ_TRACE and RELEASE_TRACE (R147, R148, R201, R202) -/

/-- Reach used and sample count of one pair. -/
def tracePairBytes (x : TracePair) : List Byte := byteOf x.reach.code :: bytesOf16 x.count

/-- A trace header's 15 bytes. -/
def headerBytes (h : TraceHeader) : List Byte :=
  bytesOf16 h.number ++ [portByte h.port] ++ tracePairBytes h.pairs.a ++ tracePairBytes h.pairs.b ++
    tracePairBytes h.pairs.c ++ tracePairBytes h.pairs.d

/-- The values a READ_TRACE returns: from the first index, at most the clamped count, as far as the list goes. -/
def traceValues (c : List Int) (first count : Nat) : List Int := (c.drop first).take (min count 96)

/-- The READ_TRACE body. -/
def traceBody (h : TraceHeader) (x : Pair) (first : Word) (values : List Int) : List Byte :=
  headerBytes h ++ [byteOf x.code] ++ bytes16 first ++ [byteOf values.length] ++ values.flatMap bytesOfInt

/-! ### FETCH_REPORTS (R161, R203) -/

/-- A test summary's eight bytes. -/
def summaryBytes (x : Summary) : List Byte :=
  bytesOf16 x.number ++
    [byteOf x.outcome.code, byteOf x.worst.code, byteOf x.pair.code, flagByte [x.distance.isSome]] ++
    bytesOf16 (x.distance.getD 0)

/-- A part that its kind announces (R203): left out when the kind is not in the entry. -/
def part {α : Type} (announced : Bool) (f : α → List Byte) : Option α → List Byte
  | some x => if announced then f x else []
  | none => []

/-- A port entry as it is sent, its hold apart. -/
def portEntryBytes (x : PortEntry) : List Byte :=
  [0, portByte x.port] ++ setBytes x.kinds ++ bytes16 (encodeWord x.word) ++
    part (hasKind x.kinds .linkDown) (fun c : DownCause => [byteOf c.code]) x.downCause ++
    part (hasKind x.kinds .stall) (fun c : StallCause => [byteOf c.code]) x.stallCause ++
    part (hasKind x.kinds .testDone) summaryBytes x.summary

/-- The device entry as it is sent. -/
def deviceEntryBytes (x : DeviceEntry) : List Byte :=
  [1, flagByte [x.restart.isSome, x.faults != 0]] ++
    part true (fun c : RestartCause => [byteOf c.code]) x.restart ++ (if x.faults = 0 then [] else [x.faults.setWidth 8])

/-- An entry as it is sent. -/
def entryBytes : Entry → List Byte
  | .port x => portEntryBytes x
  | .device x => deviceEntryBytes x

/-- The FETCH_REPORTS body: the entries taken, and the unheld and held entries left. -/
def fetchBody (x : Fetched) : List Byte :=
  [byteOf x.given.length, byteOf x.unheld, byteOf x.held] ++ x.given.flatMap entryBytes

/-! ### GET_SUMMARY (R191) -/

/-- The eight ports of a bank. -/
def bankPorts (b : BankId) : List PortId :=
  [⟨8 * b.val, by omega⟩, ⟨8 * b.val + 1, by omega⟩, ⟨8 * b.val + 2, by omega⟩, ⟨8 * b.val + 3, by omega⟩,
   ⟨8 * b.val + 4, by omega⟩, ⟨8 * b.val + 5, by omega⟩, ⟨8 * b.val + 6, by omega⟩, ⟨8 * b.val + 7, by omega⟩]

/-- A port map: byte b - 1 is bank b, its ports from bit 0 up (R195). -/
def portMap (f : PortId → Bool) : List Byte :=
  ([0, 1, 2, 3, 4, 5] : List BankId).map (fun b => flagByte ((bankPorts b).map f))

/-- How many trace slots are FREE. -/
def State.freeCount (s : State) : Nat := (allSlots.filter (fun t => s.slot t == .free)).length

/-- The 24 bytes of GET_SUMMARY. -/
def State.summaryBody (s : State) : List Byte :=
  portMap (fun p => (s.port p).flags != 0) ++ portMap (fun p => (s.port p).state == .up) ++
    portMap (fun p => (s.port p).state == .stalled) ++ allEngines.map (fun e => byteOf (s.engine e).state.code) ++
    [byteOf s.queue.length, byteOf s.freeCount]

end Sys2Proof.Machine
end

