-- ==== Sys2Proof/Machine/PortRequests.lean ====
section
/-! DEFINITION. The requests whose owner is a port: SET_ADMIN, PORT_RESTART, GET_PORT, CLEAR_FLAGS, SET_WATCH,
CLEAR_COUNTERS, and the page requests. Each gives the state after it and the answer (R185). -/

namespace Sys2Proof.Machine

/-- A request that names a port: BAD_PORT outside 1 to 48 (R186). -/
def withPort (b : Byte) (s : State) (k : PortId → State × Answer) : State × Answer :=
  match portOf b with
  | some p => k p
  | none => (s, refuse .badPort)

/-! ### SET_ADMIN (R2, R3) -/

/-- SET_ADMIN ENABLE at a port record (R2). -/
def Port.enable (p : PortId) (r : Profile) (q : Port) : Port :=
  if q.state = .disabled then Port.enterListen p r { q with enabled := true } else { q with enabled := true }

/-- SET_ADMIN DISABLE at a port record (R3). -/
def Port.disable (q : Port) : Moved :=
  match q.state with
  | .disabled | .test => quiet { q with enabled := false }
  | .up => { port := Port.enterDisabled (Port.recordDown { q with enabled := false } .admin), events := [.linkDown .admin] }
  | .listen | .offer | .extend | .train | .holdoff | .stalled => quiet (Port.enterDisabled { q with enabled := false })

/-- SET_ADMIN on a port. -/
def State.setAdmin (s : State) (p : PortId) (enable : Bool) : State :=
  s.apart fun s =>
    if enable then (s.change p (Port.enable p (s.profile p)) []).settle
    else (s.change p (fun q => q.disable.port) (s.port p).disable.events).settle

/-- SET_ADMIN: BAD_PORT, then BAD_VALUE for an undefined action (R2). -/
def ownSetAdmin (port action : Byte) (s : State) : State × Answer :=
  withPort port s fun p =>
    match boolOfCode action.toNat with
    | none => (s, refuse .badValue)
    | some a =>
      let t := s.setAdmin p a
      (t, taken [byteOf (t.port p).state.code, byteOfBool (t.port p).enabled])

/-! ### PORT_RESTART (R39) -/

/-- PORT_RESTART at a port record: the memory and the tie counter are cleared, then the link state decides. In TEST the
return-to-stall mark is cleared (R89). -/
def Port.restarted (r : Profile) (q : Port) : Moved :=
  let q := { q.clearMemory with tie := 0 }
  match q.state with
  | .disabled => quiet q
  | .test => quiet { q with returnToStall := false }
  | .up => q.dropToHoldoff r .restart
  | .listen | .offer | .extend | .train | .holdoff | .stalled => quiet (q.enterHoldoff r)

/-- The engine connected to a port. -/
def State.engineAt (s : State) (p : PortId) : Option EngineId :=
  match s.bank (bankOf p) with
  | some u => if u.port = p then some u.engine else none
  | none => none

/-- The abort of the running test of a port; a port with no engine measuring has none (R39, R95). -/
def State.abortPort (s : State) (p : PortId) : State :=
  match s.engineAt p with
  | some e => s.abort e
  | none => s

/-- PORT_RESTART on a port: in TEST its running test is aborted too. -/
def State.portRestart (s : State) (p : PortId) : State :=
  s.apart fun s =>
    let m := Port.restarted (s.profile p) (s.port p)
    let t := s.change p (fun _ => m.port) m.events
    (if (s.port p).state = .test then t.abortPort p else t).settle

/-- PORT_RESTART (R39). -/
def ownPortRestart (port : Byte) (s : State) : State × Answer :=
  withPort port s fun p =>
    let t := s.portRestart p
    (t, taken [byteOf (t.port p).state.code])

/-! ### GET_PORT, CLEAR_FLAGS, SET_WATCH, CLEAR_COUNTERS -/

/-- GET_PORT (R190). -/
def ownGetPort (port : Byte) (s : State) : State × Answer :=
  withPort port s fun p => (s, taken (portBody p (s.profile p) (s.port p)))

/-- CLEAR_FLAGS: the reply carries the flags before the clear (R56). -/
def ownClearFlags (port : Byte) (kinds : Word) (s : State) : State × Answer :=
  withPort port s fun p =>
    (s.modPort p (fun q => { q with flags := q.flags &&& ~~~(kindsOf kinds) }), taken (setBytes (s.port p).flags))

/-- SET_WATCH at a port record: expectation and mask are replaced, the state starts from UNARMED (R53). -/
def Port.watchFor (x : CondWord) (mask : FieldSet) (q : Port) : Port :=
  Port.rearm { q with watch := { expectation := x, mask, state := .unarmed } }

/-- SET_WATCH: BAD_PORT, then BAD_VALUE for an undefined code in the expectation (R53). -/
def ownSetWatch (port : Byte) (expectation mask : Word) (s : State) : State × Answer :=
  withPort port s fun p =>
    match decodeWord expectation with
    | none => (s, refuse .badValue)
    | some x =>
      let t := s.modPort p (Port.watchFor x (kindsOf mask))
      (t, taken [byteOf (t.port p).watch.state.code])

/-- CLEAR_COUNTERS: the reply carries the counters before the clear (R47). -/
def ownClearCounters (port : Byte) (s : State) : State × Answer :=
  withPort port s fun p =>
    (s.modPort p (fun q => { q with counters := coldCounters }), taken (counterBytes (s.port p).counters))

/-! ### Pages (R11, R12, R18) -/

/-- LOAD_PAGES: BAD_PORT, then BAD_VALUE for a count above 16, then for a page with tag 0 (R11). -/
def ownLoadPages (port : Byte) (pages : List Page) (s : State) : State × Answer :=
  withPort port s fun p =>
    if 16 < pages.length then (s, refuse .badValue)
    else if pages.any (fun g => g.tag == 0) then (s, refuse .badValue)
    else
      let room := pages.take (8 - (s.port p).pages.length)
      let all := (s.port p).pages ++ room
      (s.modPort p (fun q => { q with pages := all }), taken [byteOf room.length, byteOf all.length])

/-- CLEAR_PAGES: PHASE_BUSY in EXTEND (R12). -/
def ownClearPages (port : Byte) (s : State) : State × Answer :=
  withPort port s fun p =>
    if (s.port p).state = .extend then (s, refuse .phaseBusy)
    else (s.modPort p (fun q => { q with pages := [] }), taken [byteOf (s.port p).pages.length])

/-- GET_PARTNER_PAGES (R18). -/
def ownGetPartnerPages (port : Byte) (s : State) : State × Answer :=
  withPort port s fun p =>
    let q := s.port p
    (s, taken ([byteOf q.log.length, byteOfBool q.truncated] ++ q.log.flatMap Page.bytes))

end Sys2Proof.Machine
end

