-- ==== Sys2Proof/Machine/ProfileRequests.lean ====
section
/-! DEFINITION. The requests of the Profile Store: SET_PROFILE and GET_PROFILE (chapter 10). -/

namespace Sys2Proof.Machine

/-- allowed_speeds or link_mode differs, so the downshift memory is cleared (R170). -/
def setChanged (old new : Profile) : Bool := old.allowed != new.allowed || old.linkMode != new.linkMode

/-- One of the four link fields differs, so a stall is left behind (R170). -/
def linkChanged (old new : Profile) : Bool :=
  setChanged old new || old.forced != new.forced || old.roleClass != new.roleClass

/-- recheck_s or recheck_mode differs, so the recheck timer is loaded (R170). -/
def recheckChanged (old new : Profile) : Bool := old.recheckS != new.recheckS || old.recheckMode != new.recheckMode

/-- The consequences of a write at the port record (R170): the memory is cleared, then a STALLED port goes to HOLDOFF
or a port in TEST loses its return-to-stall mark. -/
def Port.afterWrite (old new : Profile) (q : Port) : Port :=
  let q := if setChanged old new then q.clearMemory else q
  if linkChanged old new then
    match q.state with
    | .stalled => q.enterHoldoff new
    | .test => { q with returnToStall := false }
    | .disabled | .listen | .offer | .extend | .train | .up | .holdoff => q
  else q

/-- A write taken at one port: stored, then its consequences in the order of R170. -/
def State.writeProfile (s : State) (r : Profile) (p : PortId) : State :=
  let old := s.profile p
  let t := (s.setProfile p r).change p (Port.afterWrite old r) []
  if recheckChanged old r then t.setRecheck p (loadedRecheck r) else t

/-- The ports from the first to the last. -/
def portRange (first last : PortId) : List PortId := allPorts.filter (fun p => decide (first ≤ p) && decide (p ≤ last))

/-- SET_PROFILE: the range, the codes, then clamp and write every port of the range, ascending (R167 to R169,
entry 10). -/
def ownSetProfile (first last : Byte) (r : RawProfile) (s : State) : State × Answer :=
  match portOf first, portOf last with
  | some a, some b =>
    if b < a then (s, refuse .badPort)
    else if rawValid r then
      (s.apart (fun s => ((portRange a b).foldl (fun s p => s.writeProfile (rawClamped r) p) s).settle),
        takenClamped (rawWasClamped r) ([first, last] ++ (Profile.raw (rawClamped r)).bytes))
    else (s, refuse .badValue)
  | _, _ => (s, refuse .badPort)

/-- GET_PROFILE (R174). -/
def ownGetProfile (port : Byte) (s : State) : State × Answer :=
  withPort port s fun p => (s, taken (portByte p :: (Profile.raw (s.profile p)).bytes))

end Sys2Proof.Machine
end

