-- ==== Sys2Proof/Machine/Restart.lean ====
section
/-! DEFINITION. Cold start, warm restart and the RESET input (chapters 1 to 11, the restart section of each). -/

namespace Sys2Proof.Machine

/-- A cold start: every block at its cold-start value (R24, R48, R59, R62, R80, R100, R136, R150, R164, R175, R189). The
sources of seeds and of the order of R162 go on from where they are (entries 3 and 25), and the waiting commands are the
surroundings', not the part's. -/
def State.coldStart (s : State) (c : RestartCause) : State :=
  { State.reset with lastCause := c, ports := s.ports.map (fun q => coldPort q.draws), reports := [restartedEntry c],
                     choices := s.choices, pending := s.pending }

/-- A warm restart at one port record (R25, R49, R59, R62, R101): the link state moves, then the watch starts from
UNARMED and is compared at once outside TEST, then the flags are cleared. -/
def Port.warm (r : Profile) (q : Port) : Port :=
  let q := match q.state with
    | .listen | .offer | .extend | .train | .holdoff => q.enterHoldoff r
    | .stalled => { q with absence := !q.energy }
    | .test => { q with returnToStall := false }
    | .up | .disabled => q
  { q.rearm with flags := 0 }

/-- A running recheck timer is loaded again, a stopped one stays stopped (R71). -/
def warmRecheck (r : Profile) : Option Nat → Option Nat
  | none => none
  | some _ => loadedRecheck r

/-- The aborts of a warm restart: every engine that is measuring, PE1 first (R81, R101). -/
def State.abortAll (s : State) : State := allEngines.foldl (fun s e => s.abort e) s

/-- An engine after a warm restart has no claimed slot, also while it still releases (table of R150). The rest of its
connection stays until release end (R91, R101). -/
def Engine.unclaimed (x : Engine) : Engine := { x with job := x.job.map (fun j => { j with slot := none }) }

/-- What a warm restart does to the blocks after the aborts: PENDING records are removed, running recheck timers are
reloaded, the ports move, every slot is freed and no engine has a claim, the report queue is emptied and the RESTARTED
entry appended, and the management line is as after a cold start (R81, R150, R165, R189). -/
def State.warmBlocks (s : State) : State :=
  { s with queue := [], recheck := Vector.ofFn (fun p => warmRecheck (s.profile p) (s.recheckOf p)),
           ports := Vector.ofFn (fun p => Port.warm (s.profile p) (s.port p)), slots := Vector.replicate 8 .free,
           engines := s.engines.map Engine.unclaimed, reports := [restartedEntry .warmRequest],
           lastCause := .warmRequest, receiver := .hunt, inbox := [], overflow := none, sender := .idle }

/-- A warm restart, the aborts first (R189). -/
def State.warmRestart (s : State) : State := s.abortAll.warmBlocks

/-- The restart that a taken RESTART brings once its reply has left (R188). -/
def State.restart (s : State) : RestartMode → State
  | .cold => s.coldStart .coldRequest
  | .warm => s.warmRestart

/-- RESET goes low: the cold-start state, with the report queue still empty and the restart cause not yet set
(R189, entry 7). -/
def State.resetAssert (s : State) : State := { s.coldStart s.lastCause with resetLow := true, reports := [] }

end Sys2Proof.Machine
end

