-- ==== Sys2Proof/Machine/StoreRequests.lean ====
section
/-! DEFINITION. The requests of the stores, the report queue and the management line's own: GET_RESULT, READ_TRACE,
RELEASE_TRACE, FETCH_REPORTS, GET_SUMMARY, IDENTIFY, RESTART (chapters 8, 9 and 11). -/

namespace Sys2Proof.Machine

/-- GET_RESULT: NOT_FOUND where the port's place is empty (R140). -/
def ownGetResult (port : Byte) (s : State) : State × Answer :=
  withPort port s fun p =>
    match s.result p with
    | none => (s, refuse .notFound)
    | some r => (s, taken (resultBody r (s.traceCurrent r)))

/-- READ_TRACE: slot, pair, NOT_FOUND for FREE, SLOT_BUSY for FILLING; the count is clamped to 96 (R146, R147). -/
def ownReadTrace (slot pair : Byte) (first count : Word) (s : State) : State × Answer :=
  match slotOf slot, Pair.ofCode pair.toNat with
  | some t, some x =>
    match s.slot t with
    | .free => (s, refuse .notFound)
    | .filling _ _ => (s, refuse .slotBusy)
    | .held h c =>
      (s, takenClamped (decide (96 < count.toNat))
        (traceBody h x first (traceValues (quadGet c x) first.toNat count.toNat)))
  | _, _ => (s, refuse .badValue)

/-- RELEASE_TRACE (R148). The slot state it carries is FREE. -/
def ownReleaseTrace (slot : Byte) (s : State) : State × Answer :=
  match slotOf slot with
  | none => (s, refuse .badValue)
  | some t =>
    match s.slot t with
    | .free => (s, taken [byteOf (Slot.code .free), 0, 0, 0, 0])
    | .filling _ _ => (s, refuse .slotBusy)
    | .held h _ => (s.setSlot t .free, taken ([byteOf (Slot.code .free), 1] ++ bytesOf16 h.number ++ [portByte h.port]))

/-- FETCH_REPORTS takes up to six unheld entries, oldest first (R161). One that the queue has taken already, inside the
event before it, carries what it took there (R162). -/
def ownFetchReports (s : State) : State × Answer :=
  match s.fetch with
  | some x => (s.setFetch none, taken (fetchBody x))
  | none => (s.takeReports.1, taken (fetchBody s.takeReports.2))

/-- GET_SUMMARY (R191). -/
def ownGetSummary (s : State) : State × Answer := (s, taken s.summaryBody)

/-- IDENTIFY: family code 4Bh, part number 4806, silicon step 1, last restart cause, port count 48 (R187). -/
def ownIdentify (s : State) : State × Answer :=
  (s, taken ([0x4B] ++ bytesOf16 4806 ++ [1, byteOf s.lastCause.code, 48]))

/-- RESTART: an undefined mode is BAD_VALUE; a taken one restarts once its reply has left (R188). -/
def ownRestart (mode : Byte) (s : State) : State × Answer :=
  match RestartMode.ofCode mode.toNat with
  | none => (s, refuse .badValue)
  | some m => (s, { status := .ok, body := [mode], restart := some m })

end Sys2Proof.Machine
end

