-- ==== Sys2Proof/Machine/TestRequests.lean ====
section
/-! DEFINITION. The requests of the Test Queue and the engines: START_TEST, CANCEL_TEST, GET_QUEUE, RESTORE_ENGINE
(chapters 4 and 5). -/

namespace Sys2Proof.Machine

/-! ### START_TEST (R65, R66) -/

/-- The record of a START_TEST, its numeric fields clamped (R65). -/
def requested (p : PortId) (number : Nat) (reach : Reach) (avg priority : Nat) (capture allowDrop : Bool) : TestRecord :=
  { number, port := p, origin := .request, reach, avg := clampTo 0 6 avg, capture, priority := clampTo 0 7 priority,
    allowDrop, state := .pending }

/-- The queue takes a new record behind all others, its number advances, and a grant pass is due (R63, R64, R66). -/
def State.append (s : State) (r : TestRecord) : State :=
  ((s.setQueue (s.queue ++ [r])).setNextNumber (nextTestNumber r.number)).duePass true

/-- The body of a PORT_BUSY refusal: the record's number and state (R66, R198). -/
def portBusy (r : TestRecord) : Answer :=
  { status := .portBusy, body := bytesOf16 r.number ++ [byteOf r.state.code], restart := none }

/-- Checks 3 to 6 of R66, the codes being defined. -/
def State.startTest (s : State) (p : PortId) (reach : Reach) (avg priority : Nat) (capture allowDrop : Bool) :
    State × Answer :=
  match s.recordOf p with
  | some r => (s, portBusy r)
  | none =>
    if (s.port p).state = .up ∧ allowDrop = false then (s, refuse .linkUp)
    else if s.bankReached (bankOf p) then
      let r := requested p s.takeNumber reach avg priority capture allowDrop
      let t := s.append r
      (t.settle, takenClamped (decide (6 < avg) || decide (7 < priority))
        (bytesOf16 r.number ++ [byteOf t.queue.length]))
    else (s, refuse .noEngine)

/-- START_TEST: BAD_PORT, then BAD_VALUE for an undefined code, then checks 3 to 6 (R66). -/
def ownStartTest (port reach avg capture priority allowDrop : Byte) (s : State) : State × Answer :=
  withPort port s fun p =>
    match Reach.ofCode reach.toNat, boolOfCode capture.toNat, boolOfCode allowDrop.toNat with
    | some x, some c, some d => s.startTest p x avg.toNat priority.toNat c d
    | _, _, _ => (s, refuse .badValue)

/-! ### CANCEL_TEST (R75, R76) -/

/-- What a CANCEL_TEST finds of its record: a PENDING one completes CANCELLED, a RUNNING one is aborted (R76). -/
def State.cancel (s : State) (r : TestRecord) : State :=
  match r.state with
  | .pending => s.completeRecord r .cancelled noPairs
  | .running e => s.abort e

/-- The outcome a CANCEL_TEST answers. -/
def cancelOutcome (r : TestRecord) : TestOutcome :=
  match r.state with
  | .pending => .cancelled
  | .running _ => .aborted

/-- A CANCEL_TEST acts on the record found, or is refused with NOT_FOUND (R75, R76). -/
def State.cancelFound (s : State) : Option TestRecord → State × Answer
  | none => (s, refuse .notFound)
  | some r => (s.cancel r, taken (bytesOf16 r.number ++ [portByte r.port, byteOf (cancelOutcome r).code]))

/-- CANCEL_TEST: selector 0 NUMBER, 1 PORT, any other BAD_VALUE (R75). -/
def ownCancelTest (selector : Byte) (value : Word) (s : State) : State × Answer :=
  match selector.toNat with
  | 0 => if value = 0 then (s, refuse .badValue) else s.cancelFound (s.recordNumbered value.toNat)
  | 1 =>
    match portOf16 value with
    | some p => s.cancelFound (s.recordOf p)
    | none => (s, refuse .badPort)
  | _ => (s, refuse .badValue)

/-! ### GET_QUEUE and RESTORE_ENGINE -/

/-- GET_QUEUE: the first position is clamped to 1 to 48 (R77). -/
def ownGetQueue (first : Byte) (s : State) : State × Answer :=
  let n := clampTo 1 48 first.toNat
  (s, takenClamped (n != first.toNat) (s.queueBody n))

/-- RESTORE_ENGINE on an engine: OUT_OF_SERVICE becomes IDLE and a grant pass runs, any other state stays (R99). -/
def State.restoreEngine (s : State) (e : EngineId) : State :=
  if (s.engine e).state = .outOfService then (s.setEngine e { s.engine e with state := .idle }).grantPass else s

/-- RESTORE_ENGINE: BAD_VALUE outside 1 to 4 (R99). -/
def ownRestoreEngine (engine : Byte) (s : State) : State × Answer :=
  match engineOf engine with
  | none => (s, refuse .badValue)
  | some e =>
    let t := s.restoreEngine e
    (t, taken [byteOf (t.engine e).state.code])

end Sys2Proof.Machine
end

