-- ==== Sys2Proof/Machine/Line.lean ====
section
/-! DEFINITION. The management line (chapter 11): dispatch, the reply sender, the inbox, the receiver. -/

namespace Sys2Proof.Machine

/-! ### Dispatch (R183, R185, R186) -/

/-- A request at its owning block: the state after it and the answer. -/
def own (r : Request) (s : State) : State × Answer :=
  match r with
  | .identify => ownIdentify s
  | .restart m => ownRestart m s
  | .setProfile f l x => ownSetProfile f l x s
  | .getProfile p => ownGetProfile p s
  | .setAdmin p a => ownSetAdmin p a s
  | .portRestart p => ownPortRestart p s
  | .getPort p => ownGetPort p s
  | .clearFlags p k => ownClearFlags p k s
  | .setWatch p e m => ownSetWatch p e m s
  | .clearCounters p => ownClearCounters p s
  | .loadPages p gs => ownLoadPages p gs s
  | .clearPages p => ownClearPages p s
  | .getPartnerPages p => ownGetPartnerPages p s
  | .startTest p r a c y d => ownStartTest p r a c y d s
  | .cancelTest x v => ownCancelTest x v s
  | .getQueue f => ownGetQueue f s
  | .restoreEngine e => ownRestoreEngine e s
  | .getResult p => ownGetResult p s
  | .readTrace t p f c => ownReadTrace t p f c s
  | .releaseTrace t => ownReleaseTrace t s
  | .fetchReports => ownFetchReports s
  | .getSummary => ownGetSummary s

/-- The kind of a reply: the request's plus 80h, modulo 256 (R177). -/
def replyKind (k : Byte) : Byte := k + 0x80#8

/-- The reply to a frame. -/
def replyTo (f : Frame) (status : Status) (body : List Byte) : Reply :=
  { tag := f.tag, kind := replyKind f.kind, status, body }

/-- LEN, TAG, KIND, STATUS and BODY of a reply, the bytes its CRC covers (R178). -/
def Reply.covered (x : Reply) : List Byte := byteOf (x.body.length + 3) :: x.tag :: x.kind :: x.status.code :: x.body

/-- Every character of a reply on MTX (R177). -/
def Reply.bytes (x : Reply) : List Byte := 0xA5#8 :: (x.covered ++ bytes16 (crc16 x.covered))

/-- What MTX carries (R176, R189): the reply that the sender sends, character after character without a pause, and the
idle level while the sender is IDLE or RESET is low. -/
def State.mtx (s : State) : MtxOutput :=
  if s.resetLow then .idle
  else match s.sender with
    | .idle => .idle
    | .sending x _ => .levels (x.bytes.flatMap characterLevels)

/-- A frame is dispatched: the MLI's two checks, or its owner's answer; its reply begins to leave (R183, R186). -/
def State.dispatch (s : State) (f : Frame) : State :=
  match parseRequest f.kind f.body with
  | .unknownKind => s.setSender (.sending (replyTo f .unknownKind []) none)
  | .badLength => s.setSender (.sending (replyTo f .badLength []) none)
  | .request r =>
    let a := own r s
    a.1.setSender (.sending (replyTo f a.2.status a.2.body) a.2.restart)

/-- The IDLE sender serves the overflow reply, else the oldest request of the inbox, else nothing (R183). -/
def State.serve (s : State) : State :=
  match s.overflow with
  | some x => (s.setOverflow none).setSender (.sending x none)
  | none =>
    match s.inbox with
    | f :: rest => (s.setInbox rest).dispatch f
    | [] => s

/-- Serve if the sender is IDLE. -/
def State.serveIfIdle (s : State) : State :=
  match s.sender with
  | .idle => s.serve
  | .sending _ _ => s

/-- A good frame is offered to the inbox (R182, R184), and served in the same step if the sender is IDLE (R183). -/
def State.offerFrame (s : State) (f : Frame) : State :=
  if s.inbox.length < 4 then (s.setInbox (s.inbox ++ [f])).serveIfIdle
  else match s.overflow with
    | none => (s.setOverflow (some (replyTo f .inboxFull []))).serveIfIdle
    | some _ => s

/-- A request of the host: its frame completes and checks good. While RESET is low the line takes nothing (entry 1). -/
def State.hostRequest (s : State) (tag : Byte) (r : Request) : State :=
  if s.resetLow then s else s.offerFrame (r.frame tag)

/-! ### The receiver (R179 to R181) -/

/-- A frame is complete: a CRC that matches offers it to the inbox, any other discards it (R181). -/
def State.frameComplete (s : State) (len : Nat) (bytes : List Byte) : State :=
  let s := s.setReceiver .hunt
  match goodFrame len bytes with
  | some f => s.offerFrame f
  | none => s

/-- A character arrives while the part runs (R179, R180). -/
def State.character (s : State) (c : Byte) (framingError : Bool) : State :=
  match s.receiver with
  | .hunt => if !framingError && c == 0xA5#8 then s.setReceiver (.frame none []) else s
  | .frame none _ =>
    if framingError || decide (c.toNat < 2) || decide (244 < c.toNat) then s.setReceiver .hunt
    else s.setReceiver (.frame (some c.toNat) [])
  | .frame (some n) bytes =>
    if framingError then s.setReceiver .hunt
    else if (bytes ++ [c]).length < n + 2 then s.setReceiver (.frame (some n) (bytes ++ [c]))
    else s.frameComplete n (bytes ++ [c])

/-- The last character of a reply has left (R183): a RESTART takes effect (R188), or the next item is served. -/
def State.replySent (s : State) : State :=
  match s.sender with
  | .idle => s
  | .sending _ none => (s.setSender .idle).serve
  | .sending _ (some m) => s.restart m

end Sys2Proof.Machine
end

