-- ==== Sys2Proof/Machine/Requests.lean ====
section
/-! DEFINITION. The meanings of the 22 requests: each is its frame completing good on the management line (entry 1); its
effect and its reply come at its dispatch (R185), by its owner `own<Name>`. -/

namespace Sys2Proof.Machine

/-- What every command of this part answers: a next state. -/
abbrev Result := Host.Outcome State Fault Refusal

/-- IDENTIFY (R187). -/
def execIdentify (tag : Byte) (s : State) : Result :=
  .next (s.hostRequest tag .identify)

/-- RESTART (R188). -/
def execRestart (tag : Byte) (mode : Byte) (s : State) : Result :=
  .next (s.hostRequest tag (.restart mode))

/-- SET_PROFILE (R167). -/
def execSetProfile (tag : Byte) (first last : Byte) (rec : RawProfile) (s : State) : Result :=
  .next (s.hostRequest tag (.setProfile first last rec))

/-- GET_PROFILE (R174). -/
def execGetProfile (tag : Byte) (port : Byte) (s : State) : Result :=
  .next (s.hostRequest tag (.getProfile port))

/-- SET_ADMIN (R2, R3). -/
def execSetAdmin (tag : Byte) (port action : Byte) (s : State) : Result :=
  .next (s.hostRequest tag (.setAdmin port action))

/-- PORT_RESTART (R39). -/
def execPortRestart (tag : Byte) (port : Byte) (s : State) : Result :=
  .next (s.hostRequest tag (.portRestart port))

/-- GET_PORT (R190). -/
def execGetPort (tag : Byte) (port : Byte) (s : State) : Result :=
  .next (s.hostRequest tag (.getPort port))

/-- CLEAR_FLAGS (R56). -/
def execClearFlags (tag : Byte) (port : Byte) (kinds : Word) (s : State) : Result :=
  .next (s.hostRequest tag (.clearFlags port kinds))

/-- SET_WATCH (R53). -/
def execSetWatch (tag : Byte) (port : Byte) (expectation mask : Word) (s : State) : Result :=
  .next (s.hostRequest tag (.setWatch port expectation mask))

/-- CLEAR_COUNTERS (R47). -/
def execClearCounters (tag : Byte) (port : Byte) (s : State) : Result :=
  .next (s.hostRequest tag (.clearCounters port))

/-- LOAD_PAGES (R11). -/
def execLoadPages (tag : Byte) (port : Byte) (pages : List Page) (s : State) : Result :=
  .next (s.hostRequest tag (.loadPages port pages))

/-- CLEAR_PAGES (R12). -/
def execClearPages (tag : Byte) (port : Byte) (s : State) : Result :=
  .next (s.hostRequest tag (.clearPages port))

/-- GET_PARTNER_PAGES (R18). -/
def execGetPartnerPages (tag : Byte) (port : Byte) (s : State) : Result :=
  .next (s.hostRequest tag (.getPartnerPages port))

/-- START_TEST (R66). -/
def execStartTest (tag : Byte) (port reach avg capture priority allowDrop : Byte) (s : State) : Result :=
  .next (s.hostRequest tag (.startTest port reach avg capture priority allowDrop))

/-- CANCEL_TEST (R75, R76). -/
def execCancelTest (tag : Byte) (selector : Byte) (value : Word) (s : State) : Result :=
  .next (s.hostRequest tag (.cancelTest selector value))

/-- GET_QUEUE (R77). -/
def execGetQueue (tag : Byte) (first : Byte) (s : State) : Result :=
  .next (s.hostRequest tag (.getQueue first))

/-- RESTORE_ENGINE (R99). -/
def execRestoreEngine (tag : Byte) (engine : Byte) (s : State) : Result :=
  .next (s.hostRequest tag (.restoreEngine engine))

/-- GET_RESULT (R140). -/
def execGetResult (tag : Byte) (port : Byte) (s : State) : Result :=
  .next (s.hostRequest tag (.getResult port))

/-- READ_TRACE (R146, R147). -/
def execReadTrace (tag : Byte) (slot pair : Byte) (first count : Word) (s : State) : Result :=
  .next (s.hostRequest tag (.readTrace slot pair first count))

/-- RELEASE_TRACE (R148). -/
def execReleaseTrace (tag : Byte) (slot : Byte) (s : State) : Result :=
  .next (s.hostRequest tag (.releaseTrace slot))

/-- FETCH_REPORTS (R161). -/
def execFetchReports (tag : Byte) (s : State) : Result :=
  .next (s.hostRequest tag .fetchReports)

/-- GET_SUMMARY (R191). -/
def execGetSummary (tag : Byte) (s : State) : Result :=
  .next (s.hostRequest tag .getSummary)

end Sys2Proof.Machine
end

