-- ==== Sys2Proof/Machine/Arrivals.lean ====
section
/-! DEFINITION. The meanings of the seven line-side arrivals (section 1.3, chapter 2). While RESET is low the part takes
no arrival (R189). -/

namespace Sys2Proof.Machine

/-- An arrival: ignored while RESET is low, else its effect, and then the grant pass its submissions call for (R58). -/
def State.arrive (s : State) (f : State → State) : State := if s.resetLow then s else (f s).settle

/-- Energy present at a port record (R4, R6, R36). -/
def Port.energyOn (p : PortId) (r : Profile) (q : Port) : Port :=
  let q := { q with energy := true }
  match q.state with
  | .listen => q.goFromListen p r
  | .stalled => { q with absence := false }
  | .disabled | .offer | .extend | .train | .up | .holdoff | .test => q

/-- Energy absent at a port record (R4, R6, R23, R29, R36). -/
def Port.energyOff (p : PortId) (r : Profile) (q : Port) : Port :=
  let q := { q with energy := false }
  match q.state with
  | .listen | .stalled => { q with absence := true }
  | .offer | .extend | .train => q.enterListen p r
  | .disabled | .up | .holdoff | .test => q

/-- A move of one port: its record changes and its events follow (R45, R58). -/
def State.move (s : State) (p : PortId) (m : Moved) : State := s.change p (fun _ => m.port) m.events

/-- ENERGY_PRESENT (R6). -/
def execEnergyPresent (p : PortId) (s : State) : Result :=
  .next (s.arrive fun s => s.change p (Port.energyOn p (s.profile p)) [])

/-- ENERGY_ABSENT (R4). -/
def execEnergyAbsent (p : PortId) (s : State) : Result :=
  .next (s.arrive fun s => s.change p (Port.energyOff p (s.profile p)) [])

/-- PARTNER_WORD (R7). -/
def execPartnerWord (p : PortId) (w : PartnerWord) (s : State) : Result :=
  .next (s.arrive fun s => s.move p ((s.port p).hear p (s.profile p) w))

/-- Training converged at a port record: in TRAIN it enters UP at the training speed and role (R28). -/
def Port.converged (margin : Nat) (map : PairMap) (polarity : BitVec 4) (q : Port) : Moved :=
  match q.state, q.training with
  | .train, some (c, x) =>
    { port := q.enterUp { speed := c, role := x, margin } map polarity, events := [.linkUp] }
  | _, _ => quiet q

/-- TRAINING_CONVERGED (R28). -/
def execTrainingConverged (p : PortId) (margin : Byte) (map : PairMap) (polarity : BitVec 4) (s : State) : Result :=
  .next (s.arrive fun s => s.move p ((s.port p).converged margin.toNat map polarity))

/-- A training failure in TRAIN, at the training speed (R27). -/
def Port.failTraining (r : Profile) (q : Port) : Moved :=
  match q.state, q.training with
  | .train, some (c, _) => q.trainingFailure r c
  | _, _ => quiet q

/-- TRAINING_FAILED (R27). -/
def execTrainingFailed (p : PortId) (s : State) : Result :=
  .next (s.arrive fun s => s.move p ((s.port p).failTraining (s.profile p)))

/-- The first change of a margin sample: smoothed margin and alarm; a rise of MARGIN_LOW is flagged (R40, R41). -/
def State.sampleChange (s : State) (p : PortId) (x : Nat) : State :=
  let q := Port.sample (s.profile p) x (s.port p)
  s.move p { port := q, events := if q.marginLow && !(s.port p).marginLow then [.marginLow] else [] }

/-- The second change of a margin sample: the margin drop, if one is due (R42). -/
def State.dropChange (s : State) (p : PortId) : State :=
  match (s.port p).link with
  | some k => if dropDue (s.profile p) (s.port p) then s.move p ((s.port p).marginDrop (s.profile p) k.speed) else s
  | none => s

/-- A margin sample acts in UP: the alarm, then the drop (R40). -/
def State.marginSample (s : State) (p : PortId) (x : Nat) : State :=
  if (s.port p).state = .up then (s.sampleChange p x).dropChange p else s

/-- MARGIN_SAMPLE (R40). -/
def execMarginSample (p : PortId) (x : Byte) (s : State) : Result :=
  .next (s.arrive fun s => s.marginSample p x.toNat)

/-- Signal lost at a port record: in UP it drops the link into HOLDOFF (R43). -/
def Port.loseSignal (r : Profile) (q : Port) : Moved :=
  if q.state = .up then q.dropToHoldoff r .signalLost else quiet q

/-- SIGNAL_LOST (R43). -/
def execSignalLost (p : PortId) (s : State) : Result :=
  .next (s.arrive fun s => s.move p ((s.port p).loseSignal (s.profile p)))

end Sys2Proof.Machine
end

