-- ==== Sys2Proof/Machine/Measure.lean ====
section
/-! DEFINITION. Pair measurement (chapter 6): listening, pulsing and capture, the end of an analysis, and the end of a
pair. -/

namespace Sys2Proof.Machine

/-- The measurement state at the start of a pair: its first listen attempt (R102, R103). -/
def startPair (x : Pair) : Meas :=
  { pair := x, run := .first, attempt := 1, waiting := false, baselines := none, spread := none, reps := 0,
    sums := sameQuad [] }

/-- The pair measured after this one. -/
def nextPair : Pair → Option Pair
  | .a => some .b | .b => some .c | .c => some .d | .d => none

/-! ### Listening (R104 to R106) -/

/-- The first `n` samples of a list as integers, a quiet 0 where the list is shorter (entry 11). -/
def firstSamples : Nat → List Sample → List Int
  | 0, _ => []
  | n + 1, [] => 0 :: firstSamples n []
  | n + 1, x :: rest => x.toInt :: firstSamples n rest

/-- The sum of a list. -/
def total : List Int → Int
  | [] => 0
  | x :: rest => x + total rest

/-- The baseline of 16 samples: the floor of their mean (R104). -/
def baselineOf (c : List Sample) : Int := total (firstSamples 16 c) / 16

/-- The largest of a list and a start value. -/
def largest (m : Int) : List Int → Int
  | [] => m
  | x :: rest => largest (max m x) rest

/-- The smallest of a list and a start value. -/
def smallest (m : Int) : List Int → Int
  | [] => m
  | x :: rest => smallest (min m x) rest

/-- The spread of 16 samples: the largest minus the smallest (R104). -/
def spreadOf (c : List Sample) : Nat :=
  match firstSamples 16 c with
  | [] => 0
  | x :: rest => (largest x rest - smallest x rest).toNat

/-- Four sum lists of a window, every entry 0 (R109). -/
def zeroSums (reach : RunReach) : Quad (List Int) := sameQuad (List.replicate (window reach) 0)

/-- A run starts in PULSE: no repetition done, every sum 0 (R109). -/
def startRun (reach : Reach) (m : Meas) (run : Run) : Meas :=
  { m with run := run, reps := 0, sums := zeroSums (runReach reach run) }

/-- The measurement state after an attempt that passes (R105). -/
def listenPassed (reach : Reach) (m : Meas) (samples : Quad (List Sample)) : Meas :=
  startRun reach { m with baselines := some (quadMap baselineOf samples),
                          spread := some (spreadOf (quadGet samples m.pair)) } .first

/-- The measurement state after a failed attempt that is not the fourth: the 10 ms listen wait runs (R105). -/
def listenFailed (m : Meas) (samples : Quad (List Sample)) : Meas :=
  { m with spread := some (spreadOf (quadGet samples m.pair)), waiting := true }

/-- The result of a NOISY pair (R106). -/
def noisyPair (reach : Reach) (m : Meas) (spread : Nat) : PairRecord :=
  { pair := m.pair, cls := .noisy, measured := some { reach := runReach reach .first, attempts := 4, spread },
    echo := none, partner := none }

/-! ### The end of a pair (R103, R114) -/

/-- The outcome of a test whose four pairs are finished (R114). -/
def outcomeOf (q : Quad PairRecord) : TestOutcome :=
  if q.a.cls = .noisy ∧ q.b.cls = .noisy ∧ q.c.cls = .noisy ∧ q.d.cls = .noisy then .partnerActive else .complete

/-- A pair is finished: on to the next pair's listen, or after pair D the end of the test (R103, R114). -/
def State.finishPair (s : State) (e : EngineId) (x : PairRecord) : State :=
  let y := s.engine e
  let done := y.finished ++ [x]
  match nextPair x.pair with
  | some z => s.setEngine e { y with state := .listen, meas := some (startPair z), finished := done }
  | none =>
    let q := pairsFrom done
    (s.setEngine e { y with finished := done }).endTest e (outcomeOf q) q

/-! ### Engine events -/

/-- The bus check passes (R92, R102). -/
def State.busPass (s : State) (e : EngineId) : State :=
  let x := s.engine e
  if x.state = .connect then
    s.setEngine e { x with state := .listen, meas := some (startPair .a), finished := [], buffer := sameQuad [] }
  else s

/-- The bus check fails (R93). -/
def State.busFail (s : State) (e : EngineId) : State :=
  if (s.engine e).state = .connect then s.endTest e .busFault noPairs else s

/-- A listen attempt ends (R104 to R106). It acts in LISTEN with an attempt under way. The spread kept is that of
the last attempt (R102), also when a fourth failure finishes the pair. -/
def State.listenEnd (s : State) (e : EngineId) (samples : Quad (List Sample)) : State :=
  let x := s.engine e
  match x.state, x.job, x.meas with
  | .listen, some j, some m =>
    if m.waiting then s
    else
      let spread := spreadOf (quadGet samples m.pair)
      if spread ≤ j.snap.noiseLimit then
        s.setEngine e { x with state := .pulse, meas := some (listenPassed j.reach m samples) }
      else if m.attempt < 4 then s.setEngine e { x with meas := some (listenFailed m samples) }
      else
        (s.setEngine e { x with meas := some { m with spread := some spread } }).finishPair e (noisyPair j.reach m spread)
  | _, _, _ => s

/-- The listen wait ends and the next attempt begins (R105). -/
def State.listenWaitEnd (s : State) (e : EngineId) : State :=
  let x := s.engine e
  match x.state, x.meas with
  | .listen, some m =>
    if m.waiting then s.setEngine e { x with meas := some { m with waiting := false, attempt := m.attempt + 1 } } else s
  | _, _ => s

/-- Add a launch's samples into a sum list, index by index; a quiet 0 where there is no sample (R109, entry 11). -/
def addSamples : List Int → List Sample → List Int
  | [], _ => []
  | x :: rest, [] => x :: addSamples rest []
  | x :: rest, y :: more => (x + y.toInt) :: addSamples rest more

/-- The launches of a run: 2 raised to the averaging exponent (R108). -/
def launches (avg : Nat) : Nat := 2 ^ avg

/-- What an engine drives in PULSE (R108, step 1): at each launch one pulse, of the run reach's width, on the current pair
of the port it is connected to. In every other state, and while RESET is low, it drives nothing. -/
def State.launching (s : State) (e : EngineId) : Option Launch :=
  match s.resetLow, (s.engine e).state, (s.engine e).job, (s.engine e).meas with
  | false, .pulse, some j, some m => some { port := j.port, pair := m.pair, ns := pulseNs (runReach j.reach m.run) }
  | _, _, _, _ => none

/-- The width of the pulse that a pair of a port is driven with at each launch; none for a pair that is not driven. A
launch reaches only the port to which its bank's switch is closed (R83, R108). -/
def State.driven (s : State) (p : PortId) (x : Pair) : Option Nat :=
  match s.bankSwitch (bankOf p), s.bank (bankOf p) with
  | some p', some u =>
    match s.launching u.engine with
    | some l => if p' = p ∧ l.pair = x then some l.ns else none
    | none => none
  | _, _ => none

/-- One launch is captured (R108, R109). -/
def State.launch (s : State) (e : EngineId) (capture : Quad (List Sample)) : State :=
  let x := s.engine e
  match x.state, x.job, x.meas with
  | .pulse, some j, some m =>
    let m := { m with reps := m.reps + 1, sums := quadZip addSamples m.sums capture }
    s.setEngine e { x with state := if launches j.avg ≤ m.reps then .analyse else .pulse, meas := some m }
  | _, _, _ => s

/-- The pair result of a run (R111, R112). -/
def pairResult (j : Job) (m : Meas) (r : RunResult) : PairRecord :=
  { pair := m.pair, cls := r.cls,
    measured := some { reach := runReach j.reach m.run, attempts := m.attempt, spread := m.spread.getD 0 },
    echo := r.echo, partner := r.partner }

/-- The four compensated lists of the run that a measurement state holds (R118 to R122). -/
def runLists (j : Job) (m : Meas) : Quad (List Int) :=
  compensatedLists j.snap (launches j.avg) (m.baselines.getD (sameQuad 0)) m.sums

/-- The result of the run that a measurement state holds (R130). -/
def runResult (j : Job) (m : Meas) : RunResult :=
  classify j.snap (blanking (runReach j.reach m.run)) m.pair (runLists j m)

/-- Is the pair pulsed again at LONG (R111)? -/
def rerunDue (j : Job) (m : Meas) : Bool :=
  j.reach == .auto && m.run == .first && (runResult j m).cls == .normal

/-- The analysis is done (R110, R111): the compensated list goes into the capture buffer, then the pair is rerun or
finished. -/
def State.analysisDone (s : State) (e : EngineId) : State :=
  let x := s.engine e
  match x.state, x.job, x.meas with
  | .analyse, some j, some m =>
    let x := { x with buffer := quadSet x.buffer m.pair (quadGet (runLists j m) m.pair) }
    if rerunDue j m then
      s.setEngine e { x with state := .pulse, meas := some (startRun j.reach m .rerun) }
    else
      (s.setEngine e { x with meas := some { m with sums := sameQuad [] } }).finishPair e (pairResult j m (runResult j m))
  | _, _, _ => s

end Sys2Proof.Machine
end

