-- ==== Sys2Proof/Machine/EngineEvents.lean ====
section
/-! DEFINITION. The meanings of the engine events (chapters 5 and 6). -/

namespace Sys2Proof.Machine

/-- BUS_CHECK_PASS (R92). -/
def execBusCheckPass (e : EngineId) (s : State) : Result := .next (s.busPass e)

/-- BUS_CHECK_FAIL (R93). -/
def execBusCheckFail (e : EngineId) (s : State) : Result := .next (s.busFail e)

/-- LISTEN_ATTEMPT_END (R104, R105), with the 16 samples of each pair. -/
def execListenAttemptEnd (e : EngineId) (samples : Quad (List Sample)) (s : State) : Result :=
  .next (s.listenEnd e samples)

/-- LISTEN_WAIT_END (R105). -/
def execListenWaitEnd (e : EngineId) (s : State) : Result := .next (s.listenWaitEnd e)

/-- LAUNCH_CAPTURED (R108, R109), with the window of each pair. -/
def execLaunchCaptured (e : EngineId) (capture : Quad (List Sample)) (s : State) : Result := .next (s.launch e capture)

/-- ANALYSIS_DONE (R111). -/
def execAnalysisDone (e : EngineId) (s : State) : Result := .next (s.analysisDone e)

/-- RELEASE_END (R96): it acts on an engine in RELEASE. -/
def execReleaseEnd (e : EngineId) (s : State) : Result :=
  .next (if (s.engine e).state = .release then s.releaseEnd e else s)

end Sys2Proof.Machine
end

