-- ==== Sys2Proof/Machine/LineEvents.lean ====
section
/-! DEFINITION. The meanings of the management line's events and of the starts of the part (chapter 11, R164). -/

namespace Sys2Proof.Machine

/-- MRX_CHARACTER (R179 to R181): nothing is taken from MRX while RESET is low (R189). -/
def execMrxCharacter (c : Byte) (framingError : Bool) (s : State) : Result :=
  .next (if s.resetLow then s else s.character c framingError)

/-- GAP_TIMER_EXPIRY (R180): an unfinished frame is discarded. -/
def execGapTimerExpiry (s : State) : Result := .next (s.setReceiver .hunt)

/-- REPLY_SENT (R183, R188). -/
def execReplySent (s : State) : Result := .next s.replySent

/-- POWER_ON: a cold start with restart cause POWER_ON (R164). RESET is taken to be high (entry 8). -/
def execPowerOn (s : State) : Result := .next (s.coldStart .powerOn)

/-- RESET_ASSERT (R189). -/
def execResetAssert (s : State) : Result := .next s.resetAssert

/-- RESET_RELEASE: a cold start with restart cause RESET_LINE (R164, R189, entry 8). -/
def execResetRelease (s : State) : Result := .next (s.coldStart .resetLine)

end Sys2Proof.Machine
end

