-- ==== Sys2Proof/Machine/Timers.lean ====
section
/-! DEFINITION. The meanings of the part's own timer expiries. The expiry of a timer that does not run finds nothing to
act on (entry 5). -/

namespace Sys2Proof.Machine

/-- The exchange timer at a port record (R22). -/
def Port.exchangeExpired (r : Profile) (q : Port) : Moved :=
  if q.exchangeTimer.isSome ∧ (q.state = .offer ∨ q.state = .extend) then
    { port := q.countTimeout.enterHoldoff r, events := [.exchangeTimeout] }
  else quiet q

/-- EXCHANGE_TIMER_EXPIRY (R22). -/
def execExchangeTimerExpiry (p : PortId) (s : State) : Result :=
  .next (s.move p ((s.port p).exchangeExpired (s.profile p))).settle

/-- The training timer at a port record: a training failure (R27). -/
def Port.trainingExpired (r : Profile) (q : Port) : Moved :=
  if q.trainTimer.isSome then q.failTraining r else quiet q

/-- TRAINING_TIMER_EXPIRY (R27). -/
def execTrainingTimerExpiry (p : PortId) (s : State) : Result :=
  .next (s.move p ((s.port p).trainingExpired (s.profile p))).settle

/-- The holdoff wait at a port record (R34). -/
def Port.holdoffEnded (p : PortId) (r : Profile) (q : Port) : Port :=
  if q.holdoff.isSome ∧ q.state = .holdoff then q.enterListen p r else q

/-- HOLDOFF_WAIT_END (R34). -/
def execHoldoffWaitEnd (p : PortId) (s : State) : Result :=
  .next (s.change p (Port.holdoffEnded p (s.profile p)) []).settle

/-- The energy-absence timer at a port record (R38): the memory is cleared; LISTEN stays with the timer stopped,
STALLED enters LISTEN. -/
def Port.absenceExpired (p : PortId) (r : Profile) (q : Port) : Port :=
  if q.absence then
    match q.state with
    | .listen => { q.clearMemory with absence := false }
    | .stalled => q.clearMemory.enterListen p r
    | .disabled | .offer | .extend | .train | .up | .holdoff | .test => q
  else q

/-- ENERGY_ABSENCE_TIMER_EXPIRY (R38). -/
def execEnergyAbsenceTimerExpiry (p : PortId) (s : State) : Result :=
  .next (s.change p (Port.absenceExpired p (s.profile p)) []).settle

/-- The recheck timer of a port (R72): a recheck submission unless the port is UP, then REPEAT loads the timer again and
ONCE stops it. -/
def State.recheckExpired (s : State) (p : PortId) : State :=
  match s.recheckOf p with
  | none => s
  | some _ =>
    let t := if (s.port p).state = .up then s else s.submit p none
    (t.setRecheck p (recheckAfterExpiry (s.profile p))).settle

/-- RECHECK_TIMER_EXPIRY (R72). -/
def execRecheckTimerExpiry (p : PortId) (s : State) : Result := .next (s.recheckExpired p)

/-- The aging clock of a record (R73): one level up, and a grant pass. -/
def State.agingExpired (s : State) (number : Nat) : State :=
  match s.recordNumbered number with
  | some r => if r.ages then (s.setQueue (ageRecord number s.queue)).grantPass else s
  | none => s

/-- AGING_CLOCK_EXPIRY (R73). -/
def execAgingClockExpiry (number : Nat) (s : State) : Result := .next (s.agingExpired number)

end Sys2Proof.Machine
end

