-- ==== Sys2Proof/Machine/Dispatch.lean ====
section
/-! DEFINITION. One arm per command, each a direct call of its meaning. -/

namespace Sys2Proof.Machine

/-- The effect of a command on everything but the queue of waiting commands. -/
def exec (i : Instr) (s : State) : Host.Outcome State Fault Refusal :=
  match i with
  | .identify tag => Sys2Proof.Machine.execIdentify tag s
  | .restart tag mode => Sys2Proof.Machine.execRestart tag mode s
  | .setProfile tag first last rec => Sys2Proof.Machine.execSetProfile tag first last rec s
  | .getProfile tag port => Sys2Proof.Machine.execGetProfile tag port s
  | .setAdmin tag port action => Sys2Proof.Machine.execSetAdmin tag port action s
  | .portRestart tag port => Sys2Proof.Machine.execPortRestart tag port s
  | .getPort tag port => Sys2Proof.Machine.execGetPort tag port s
  | .clearFlags tag port kinds => Sys2Proof.Machine.execClearFlags tag port kinds s
  | .setWatch tag port expectation mask => Sys2Proof.Machine.execSetWatch tag port expectation mask s
  | .clearCounters tag port => Sys2Proof.Machine.execClearCounters tag port s
  | .loadPages tag port pages => Sys2Proof.Machine.execLoadPages tag port pages s
  | .clearPages tag port => Sys2Proof.Machine.execClearPages tag port s
  | .getPartnerPages tag port => Sys2Proof.Machine.execGetPartnerPages tag port s
  | .startTest tag port reach avg capture priority allowDrop => Sys2Proof.Machine.execStartTest tag port reach avg capture priority allowDrop s
  | .cancelTest tag selector value => Sys2Proof.Machine.execCancelTest tag selector value s
  | .getQueue tag first => Sys2Proof.Machine.execGetQueue tag first s
  | .restoreEngine tag engine => Sys2Proof.Machine.execRestoreEngine tag engine s
  | .getResult tag port => Sys2Proof.Machine.execGetResult tag port s
  | .readTrace tag slot pair first count => Sys2Proof.Machine.execReadTrace tag slot pair first count s
  | .releaseTrace tag slot => Sys2Proof.Machine.execReleaseTrace tag slot s
  | .fetchReports tag => Sys2Proof.Machine.execFetchReports tag s
  | .getSummary tag => Sys2Proof.Machine.execGetSummary tag s
  | .energyPresent p => Sys2Proof.Machine.execEnergyPresent p s
  | .energyAbsent p => Sys2Proof.Machine.execEnergyAbsent p s
  | .partnerWord p w => Sys2Proof.Machine.execPartnerWord p w s
  | .trainingConverged p margin map polarity => Sys2Proof.Machine.execTrainingConverged p margin map polarity s
  | .trainingFailed p => Sys2Proof.Machine.execTrainingFailed p s
  | .marginSample p x => Sys2Proof.Machine.execMarginSample p x s
  | .signalLost p => Sys2Proof.Machine.execSignalLost p s
  | .exchangeTimerExpiry p => Sys2Proof.Machine.execExchangeTimerExpiry p s
  | .trainingTimerExpiry p => Sys2Proof.Machine.execTrainingTimerExpiry p s
  | .holdoffWaitEnd p => Sys2Proof.Machine.execHoldoffWaitEnd p s
  | .energyAbsenceTimerExpiry p => Sys2Proof.Machine.execEnergyAbsenceTimerExpiry p s
  | .recheckTimerExpiry p => Sys2Proof.Machine.execRecheckTimerExpiry p s
  | .agingClockExpiry number => Sys2Proof.Machine.execAgingClockExpiry number s
  | .busCheckPass e => Sys2Proof.Machine.execBusCheckPass e s
  | .busCheckFail e => Sys2Proof.Machine.execBusCheckFail e s
  | .listenAttemptEnd e samples => Sys2Proof.Machine.execListenAttemptEnd e samples s
  | .listenWaitEnd e => Sys2Proof.Machine.execListenWaitEnd e s
  | .launchCaptured e capture => Sys2Proof.Machine.execLaunchCaptured e capture s
  | .analysisDone e => Sys2Proof.Machine.execAnalysisDone e s
  | .releaseEnd e => Sys2Proof.Machine.execReleaseEnd e s
  | .mrxCharacter c framingError => Sys2Proof.Machine.execMrxCharacter c framingError s
  | .gapTimerExpiry => Sys2Proof.Machine.execGapTimerExpiry s
  | .replySent => Sys2Proof.Machine.execReplySent s
  | .powerOn => Sys2Proof.Machine.execPowerOn s
  | .resetAssert => Sys2Proof.Machine.execResetAssert s
  | .resetRelease => Sys2Proof.Machine.execResetRelease s

end Sys2Proof.Machine
end

