-- ==== Sys2Proof/Safety.lean ====
section
/-! DEFINITION. What a sound part is, in the terms statements use: the invariants that every step keeps, and runs of
several commands. -/

namespace Sys2Proof.Machine

/-! ### Runs -/

/-- Execute commands one after another; the first stop ends the run. -/
def runAll : List Instr → State → Result
  | [], s => .next s
  | i :: rest, s =>
    match exec i s with
    | .next t => runAll rest t
    | .fault x => .fault x
    | .refused x => .refused x

/-- The characters of a run of bytes, each received without a framing error. -/
def characters (bytes : List Byte) : List Instr := bytes.map (fun c => .mrxCharacter c false)

/-! ### Explicit records -/

/-- A port record in a link state, holding no timer, candidate, training, link, margin, stall or return value: what is
left when a port leaves a link state, before the state entered adds its own values. -/
def Port.bareIn (q : Port) (x : LinkState) : Port :=
  { q with state := x, candidate := none, exchangeTimer := none, training := none, trainTimer := none, link := none,
           smoothed := none, samples := 0, marginLow := false, holdoff := none, absence := false, stallCause := none,
           returnToStall := false }

/-- A port record as the entry to OFFER leaves it (R8), `speeds` being the set it offers. -/
def Port.offering (p : PortId) (speeds : SpeedSet) (x : RoleClass) (ms : Nat) (q : Port) : Port :=
  { q.bareIn .offer with
    ownOffer := some { speeds, roleClass := x, seed := Config.seedDraw p q.draws, hasPages := !q.pages.isEmpty,
                       heard := false },
    draws := q.draws + 1, log := [], truncated := false, lastParity := none, ownAck := none, localDone := false,
    partnerDone := false, sending := none, nextParity := false, partnerOffer := none, exchangeTimer := some ms }

/-- Does a role class insist (FORCE) rather than prefer? -/
def roleForces : RoleClass → Bool
  | .forceLead | .forceFollow => true
  | .preferLead | .preferFollow => false

/-- The role a role class asks for. -/
def roleAsked : RoleClass → Role
  | .forceLead | .preferLead => .lead
  | .forceFollow | .preferFollow => .follow

/-- The other role. -/
def otherRole : Role → Role
  | .lead => .follow
  | .follow => .lead

/-- What entry to LISTEN leads to (R5, R6): LISTEN itself with the energy-absence timer running while ENERGY is 0, and
OFFER or, in FORCED mode, TRAIN at once while it is 1. -/
def Port.listening (p : PortId) (r : Profile) (q : Port) : Port :=
  if q.energy then
    match r.linkMode with
    | .exchange => Port.offering p (r.allowed &&& ~~~q.removed) r.roleClass r.exchangeMs { q with tie := 0 }
    | .forced =>
      { q.bareIn .train with
        tie := 0, partnerOffer := none, training := some (r.forced, roleAsked r.roleClass),
        trainTimer := some (trainMs r.forced) }
  else { q.bareIn .listen with tie := 0, absence := true }

/-- A port record that has entered HOLDOFF with a wait of `ms` (R33). -/
def Port.holding (ms : Nat) (q : Port) : Port := { q.bareIn .holdoff with holdoff := some ms }

/-- A port record that has entered STALLED with a cause (R35). -/
def Port.stalling (c : StallCause) (q : Port) : Port :=
  { q.bareIn .stalled with stallCause := some c, absence := !q.energy }

/-- A port record with a clear downshift memory (R32). -/
def Port.forgetful (q : Port) : Port :=
  { q with failCounts := { s100 := 0, s1g := 0, s2g5 := 0, s5g := 0, s10g := 0 }, removed := 0 }

/-- A port record with one more link drop, for this cause (R44). -/
def Port.dropped (c : DownCause) (q : Port) : Port :=
  { q with lastDown := some c, counters := { q.counters with linkDrops := bump 65535 q.counters.linkDrops } }

/-- A port record without its flags and its watch: what flagged events and comparisons leave alone. -/
def Port.bare (q : Port) : Port := { q with flags := 0, watch := coldWatch }

/-- A port record that has entered TRAIN at a speed and role (R26). -/
def Port.trainingAt (c : Speed) (x : Role) (q : Port) : Port :=
  { q.bareIn .train with training := some (c, x), trainTimer := some (trainMs c) }

/-- A port record that has entered EXTEND and sends its first page, or a null page (R13). -/
def Port.extending (q : Port) : Port :=
  { q with
    state := .extend,
    sending := some (match q.pages with
      | g :: rest => { page := some g, more := decide (rest ≠ []), parity := false }
      | [] => { page := none, more := false, parity := false }),
    nextParity := decide (q.pages ≠ []) }

/-- The sending side after an accepted page word (R13, R14). -/
def Port.afterAck (w : PageWord) (q : Port) : Port :=
  match q.sending with
  | none => q
  | some x =>
    if q.localDone = false ∧ w.ack = some x.parity then
      match x.page, x.more, q.pages.tail with
      | none, _, _ => { q with localDone := true }
      | some _, true, g :: rest =>
        { q with pages := g :: rest, nextParity := !q.nextParity,
                 sending := some { page := some g, more := decide (rest ≠ []), parity := q.nextParity } }
      | some _, _, rest =>
        { q with pages := rest, localDone := true,
                 sending := some { page := none, more := false, parity := x.parity } }
    else q

/-- The receiving side after an accepted page word (R15). -/
def Port.afterPage (w : PageWord) (q : Port) : Port :=
  let fresh := decide (q.lastParity ≠ some w.parity)
  { q with
    lastParity := some w.parity,
    ownAck := if fresh then some w.parity else q.ownAck,
    log := if fresh ∧ w.tag ≠ 0 ∧ q.log.length < 8 then q.log ++ [{ tag := w.tag, data := w.data }] else q.log,
    truncated := q.truncated || (fresh && decide (w.tag ≠ 0 ∧ 8 ≤ q.log.length)),
    partnerDone := q.partnerDone || !w.more }

/-! ### Moves of a port -/

/-- A port moves to a new record with flagged events, and the cause ends (R45, R58). -/
def State.becomes (s : State) (p : PortId) (q : Port) (evs : List FlagEvent) : State :=
  (s.change p (fun _ => q) evs).settle

/-- The word `w` arrives at a port of a running part for the third time in a row; `q` is the port record at its
acceptance (R7). -/
def State.accepts (s : State) (p : PortId) (w : PartnerWord) (q : Port) : Prop :=
  s.resetLow = false ∧ (s.port p).candidate = some (w, 2) ∧ q = { s.port p with candidate := some (w, 3) }

/-! ### Numbers and bytes of requests and replies -/

/-- A byte that names a port: ports run from 1 to 48, port p + 1 being index p. -/
def portIs (b : Byte) (p : PortId) : Prop := b.toNat = p.val + 1

/-- A byte that names no port. -/
def noPort (b : Byte) : Prop := b.toNat = 0 ∨ 48 < b.toNat

/-- `n` bytes of a body from an offset on. -/
def slice (offset n : Nat) (body : List Byte) : List Byte := (body.drop offset).take n

/-- The fixed body length of a request kind (table of R197); none for LOAD_PAGES and for no kind. -/
def bodyLength : Nat → Option Nat
  | 0x01 => some 0 | 0x02 => some 1 | 0x03 => some 38 | 0x04 => some 1 | 0x05 => some 2 | 0x06 => some 1
  | 0x07 => some 1 | 0x08 => some 3 | 0x09 => some 5 | 0x0A => some 1 | 0x0C => some 1 | 0x0D => some 1
  | 0x0E => some 6 | 0x0F => some 3 | 0x10 => some 1 | 0x11 => some 1 | 0x12 => some 1 | 0x13 => some 6
  | 0x14 => some 1 | 0x15 => some 0 | 0x16 => some 0 | _ => none

/-- The port and the request byte of a request that names one port (R186, check 3). -/
def namedPort : Request → Option Byte
  | .getProfile p | .setAdmin p _ | .portRestart p | .getPort p | .clearFlags p _ | .setWatch p _ _
  | .clearCounters p | .loadPages p _ | .clearPages p | .getPartnerPages p | .startTest p _ _ _ _ _
  | .getResult p => some p
  | .identify | .restart _ | .setProfile _ _ _ | .cancelTest _ _ | .getQueue _ | .restoreEngine _
  | .readTrace _ _ _ _ | .releaseTrace _ | .fetchReports | .getSummary => none

/-! ### The management line (R179 to R183, R189) -/

/-- The line is free: RESET is high, the sender is IDLE and nothing waits, so that a request is dispatched at once. -/
def State.lineFree (s : State) : Prop :=
  s.resetLow = false ∧ s.sender = .idle ∧ s.overflow = none ∧ s.inbox = []

/-- The state after a request on a free line whose owner gives `t` and the answer `a`: the reply begins to leave. -/
def State.replied (t : State) (tag kind : Byte) (a : Answer) : State :=
  t.setSender (.sending { tag, kind, status := a.status, body := a.body } a.restart)

/-- A frame in collection is one the receiver could be collecting (R180). -/
def Receiver.sound : Receiver → Prop
  | .hunt => True
  | .frame none bytes => bytes = []
  | .frame (some n) bytes => 2 ≤ n ∧ n ≤ 244 ∧ bytes.length < n + 2

/-- The inbox holds at most four frames, an overflow reply waits only behind a full inbox, an IDLE sender has nothing
waiting, and while RESET is low the line is at rest. -/
def State.lineSound (s : State) : Prop :=
  s.inbox.length ≤ 4 ∧ (s.overflow.isSome → s.inbox.length = 4) ∧
    (s.sender = .idle → s.overflow = none ∧ s.inbox = []) ∧
    (s.resetLow = true → s.sender = .idle ∧ s.receiver = .hunt) ∧ s.receiver.sound

/-! ### Profiles and effective sets (R166, R30) -/

/-- Every field of a profile holds a value within its range (R166). -/
def Profile.sound (q : Profile) : Prop :=
  q.allowed ≠ 0 ∧ q.downshiftAfter ≤ 4 ∧ (100 ≤ q.holdoffMs ∧ q.holdoffMs ≤ 5000) ∧
    (500 ≤ q.exchangeMs ∧ q.exchangeMs ≤ 10000) ∧ q.marginAlarm ≤ 255 ∧ q.marginHyst ≤ 50 ∧ q.marginDrop ≤ 255 ∧
    (500 ≤ q.velocity ∧ q.velocity ≤ 900) ∧ q.lossSlope ≤ 255 ∧ (16 ≤ q.detectLevel ∧ q.detectLevel ≤ 2047) ∧
    (q.detectLevel + 1 ≤ q.hardLevel ∧ q.hardLevel ≤ 4095) ∧ (16 ≤ q.crossLevel ∧ q.crossLevel ≤ 4095) ∧
    (4 ≤ q.noiseLimit ∧ q.noiseLimit ≤ 512) ∧ q.autoTriggers &&& ~~~triggerKinds = 0 ∧ q.autoPriority ≤ 7 ∧
    q.autoAvg ≤ 6 ∧ q.recheckS ≤ 65535 ∧ q.recheckPriority ≤ 7

/-- Every stored profile is within its ranges. -/
def State.profilesSound (s : State) : Prop := ∀ p, (s.profile p).sound

/-- Removal never empties a port's allowed set, so no effective set is empty in either link mode (R30). -/
def State.setsSound (s : State) : Prop :=
  ∀ p, (s.profile p).allowed &&& ~~~(s.port p).removed ≠ 0

/-! ### Port records (chapters 1 and 2) -/

/-- Is the link state OFFER or EXTEND? -/
def LinkState.exchanging : LinkState → Bool
  | .offer | .extend => true
  | .disabled | .listen | .train | .up | .holdoff | .stalled | .test => false

/-- The timers and values of each link state are held in that state and no other. -/
def Port.stateSound (q : Port) : Prop :=
  q.training.isSome = (q.state == .train) ∧ q.trainTimer.isSome = (q.state == .train) ∧
    q.link.isSome = (q.state == .up) ∧ (q.smoothed.isSome → q.state = .up) ∧ (q.marginLow = true → q.state = .up) ∧
    (q.state ≠ .up → q.samples = 0) ∧ q.exchangeTimer.isSome = q.state.exchanging ∧
    (q.candidate.isSome → q.state.exchanging = true) ∧ q.holdoff.isSome = (q.state == .holdoff) ∧
    (q.absence = true → (q.state = .listen ∨ q.state = .stalled) ∧ q.energy = false) ∧
    (q.state = .stalled → q.stallCause.isSome) ∧ (q.stallCause.isSome → q.state = .stalled ∨ q.state = .test) ∧
    (q.returnToStall = true → q.state = .test ∧ q.stallCause.isSome) ∧
    (q.state = .disabled → q.enabled = false) ∧ (q.enabled = false → q.state = .disabled ∨ q.state = .test) ∧
    (q.state = .test → q.watch.state = .unarmed)

/-- What LISTEN and an exchange in progress hold (R5, R8, R9, R13): a tie counter at 0 in LISTEN and below 7 in the
exchange, an own offer word, in EXTEND a stored partner offer and a page in sending, a real page in sending being the
head of the local queue. -/
def Port.exchangeSound (q : Port) : Prop :=
  (q.state = .listen → q.tie = 0) ∧ (q.state.exchanging = true → q.ownOffer.isSome ∧ q.tie < 7) ∧
    (q.state = .offer → q.heard = true → q.partnerOffer.isSome) ∧
    (q.state = .extend → q.partnerOffer.isSome ∧ q.sending.isSome) ∧
    (q.state = .extend → ∀ x g, q.sending = some x → x.page = some g → q.pages.head? = some g)

/-- The ranges of a port record's numbers and lists. -/
def Port.rangeSound (q : Port) : Prop :=
  q.tie ≤ 7 ∧ q.pages.length ≤ 8 ∧ q.log.length ≤ 8 ∧ (∀ g ∈ q.pages, g.tag ≠ 0) ∧ (∀ g ∈ q.log, g.tag ≠ 0) ∧
    (∀ x n, q.candidate = some (x, n) → 1 ≤ n ∧ n ≤ 3) ∧ (∀ k, q.link = some k → k.margin ≤ 255) ∧
    (∀ m, q.smoothed = some m → m ≤ 255) ∧ q.samples ≤ 65535 ∧ (∀ c, q.failCounts.get c ≤ 255) ∧
    q.counters.linkUps ≤ 65535 ∧ q.counters.linkDrops ≤ 65535 ∧ q.counters.trainFailures ≤ 65535 ∧
    q.counters.exchangeTimeouts ≤ 65535 ∧ q.counters.downshifts ≤ 65535

/-- Every port record is sound. -/
def State.portsSound (s : State) : Prop :=
  ∀ p, (s.port p).stateSound ∧ (s.port p).exchangeSound ∧ (s.port p).rangeSound

/-! ### The test queue and the report queue (R63, R64, R151 to R153, R157 to R160) -/

/-- At most one record per port, test numbers in range and unique (R63, R64). -/
def State.queueSound (s : State) : Prop :=
  (s.queue.map (·.port)).Nodup ∧ (s.queue.map (·.number)).Nodup ∧ (∀ r ∈ s.queue, 1 ≤ r.number ∧ r.number ≤ 65535) ∧
    1 ≤ s.nextNumber ∧ s.nextNumber ≤ 65535

/-- `n` is the number the next created record takes: the first from the next test number on, 65535 followed by 1, that
no record holds (R64). -/
def State.nextFree (s : State) (n : Nat) : Prop :=
  ∃ k, n = (s.nextNumber - 1 + k) % 65535 + 1 ∧ (∀ r ∈ s.queue, r.number ≠ n) ∧
    ∀ j < k, ∃ r ∈ s.queue, r.number = (s.nextNumber - 1 + j) % 65535 + 1

/-- Priorities run from 0 to 7 and averaging exponents from 0 to 6 (section 4.1). -/
def State.recordsInRange (s : State) : Prop := ∀ r ∈ s.queue, r.priority ≤ 7 ∧ r.avg ≤ 6

/-- The port an entry belongs to, none for the device entry. -/
def Entry.owner : Entry → Option PortId
  | .port x => some x.port
  | .device _ => none

/-- The items of an entry are present as its kinds say; only a held entry can have no kind (R152, R153, R159). -/
def Entry.sound : Entry → Prop
  | .port x =>
    (x.downCause.isSome = hasKind x.kinds .linkDown) ∧ (x.stallCause.isSome = hasKind x.kinds .stall) ∧
      (x.summary.isSome = hasKind x.kinds .testDone) ∧ (x.kinds = 0 → x.hold.isSome)
  | .device x => x.restart.isSome ∨ x.faults ≠ 0

/-- At most one entry per port and one device entry, each sound (R151). -/
def State.reportsSound (s : State) : Prop := (s.reports.map Entry.owner).Nodup ∧ ∀ x ∈ s.reports, x.sound

/-- Every hold names a record of its port that is still in the queue (R157 to R160). -/
def State.holdsSound (s : State) : Prop :=
  ∀ x n, Entry.port x ∈ s.reports → x.hold = some n → ∃ r ∈ s.queue, r.number = n ∧ r.port = x.port

/-- What a FETCH_REPORTS has taken inside the step before its own: at most six unheld entries, and the command is still at
the front of the queue, to be answered by the next step (R161, R162). -/
def State.fetchSound (s : State) : Prop :=
  ∀ x, s.fetch = some x →
    s.fetchAtHand = true ∧ x.given.length ≤ 6 ∧ ∀ y ∈ x.given, y.held = false ∧ y.sound

/-! ### Engines, banks, ports and slots of running tests (R83, R88, R142) -/

/-- What an engine's state says about what it holds, and that a connected engine's bank is busy with it (R83, R91). -/
def State.engineSound (s : State) (e : EngineId) : Prop :=
  match (s.engine e).state with
  | .idle | .outOfService =>
    (s.engine e).job = none ∧ (s.engine e).meas = none ∧ (s.engine e).faultPending = false
  | .connect | .release =>
    ∃ j, (s.engine e).job = some j ∧ s.bank (bankOf j.port) = some { port := j.port, engine := e } ∧
      reaches e (bankOf j.port) = true
  | .listen | .pulse | .analyse =>
    (s.engine e).meas.isSome ∧
      ∃ j, (s.engine e).job = some j ∧ s.bank (bankOf j.port) = some { port := j.port, engine := e } ∧
        reaches e (bankOf j.port) = true

/-- A busy bank's port lies in it, and its engine is connected to that port (R83). -/
def State.bankSound (s : State) (b : BankId) : Prop :=
  ∀ u, s.bank b = some u → bankOf u.port = b ∧ ∃ j, (s.engine u.engine).job = some j ∧ j.port = u.port

/-- A port is in TEST exactly while a probe engine is connected to it (R88). -/
def State.testSound (s : State) (p : PortId) : Prop :=
  (s.port p).state = .test ↔ ∃ u, s.bank (bankOf p) = some u ∧ u.port = p

/-- A RUNNING record and the engine that measures for it name each other (R87, R88). -/
def State.runningSound (s : State) : Prop :=
  (∀ r ∈ s.queue, ∀ e, r.state = .running e → (s.engine e).state.measuring = true ∧
    ∃ j, (s.engine e).job = some j ∧ j.number = r.number ∧ j.port = r.port) ∧
  (∀ e j, (s.engine e).state.measuring = true → (s.engine e).job = some j →
    ∃ r ∈ s.queue, r.number = j.number ∧ r.port = j.port ∧ r.state = .running e)

/-- A FILLING slot and the measuring engine that claimed it name each other (R142). -/
def State.slotsSound (s : State) : Prop :=
  (∀ t e n, s.slot t = .filling e n → (s.engine e).state.measuring = true ∧
    ∃ j, (s.engine e).job = some j ∧ j.slot = some t ∧ j.number = n) ∧
  (∀ e j t, (s.engine e).state.measuring = true → (s.engine e).job = some j → j.slot = some t →
    s.slot t = .filling e j.number)

/-- Engines, banks, ports, records and slots agree about every test. -/
def State.testsSound (s : State) : Prop :=
  (∀ e, s.engineSound e) ∧ (∀ b, s.bankSound b) ∧ (∀ p, s.testSound p) ∧ s.runningSound ∧ s.slotsSound

/-! ### The arbiter (R84) -/

/-- No grant pass is due and none could grant anything: every PENDING record waits for its bank or for an engine. -/
def State.settled (s : State) : Prop := s.passDue = false ∧ ∀ r ∈ s.queue, s.choosable r = false

end Sys2Proof.Machine
end

