-- ==== Sys2Proof/WellFormed.lean ====
section
/-! DEFINITION. Which commands the part's surroundings can send at all. `exec` gives every command a next state, the
ill-formed ones too; well-formedness is what the statements about encodings and measurements assume. -/

namespace Sys2Proof

/-- A LOAD_PAGES body of 2 + 4n bytes fits a frame only up to n = 60, since a body has at most 242 bytes (R177). -/
def pagesFit (pages : List Page) : Bool := decide (pages.length ≤ 60)

/-- A listen attempt takes 16 samples on each of the four pairs (R104). -/
def listenFits (q : Quad (List Sample)) : Bool :=
  decide (q.a.length = 16) && decide (q.b.length = 16) && decide (q.c.length = 16) && decide (q.d.length = 16)

/-- One launch's capture is a window of 256, 640 or 1024 samples, the same on all four pairs (R107, R108). -/
def captureFits (q : Quad (List Sample)) : Bool :=
  (q.a.length == 256 || q.a.length == 640 || q.a.length == 1024) &&
    decide (q.b.length = q.a.length) && decide (q.c.length = q.a.length) && decide (q.d.length = q.a.length)

/-- Test numbers run from 1 to 65535 (R64). -/
def numberFits (n : Nat) : Bool := decide (1 ≤ n) && decide (n ≤ 65535)

/-- The well-formed requests: every field but the page list is bounded by its type. -/
def Request.wf : Request → Bool
  | .loadPages _ pages => pagesFit pages
  | _ => true

/-- The well-formed commands. -/
def Instr.wf : Instr → Bool
  | .loadPages _ _ pages => pagesFit pages
  | .agingClockExpiry n => numberFits n
  | .listenAttemptEnd _ q => listenFits q
  | .launchCaptured _ q => captureFits q
  | .identify _ | .restart _ _ | .setProfile _ _ _ _ | .getProfile _ _ | .setAdmin _ _ _ | .portRestart _ _
  | .getPort _ _ | .clearFlags _ _ _ | .setWatch _ _ _ _ | .clearCounters _ _ | .clearPages _ _
  | .getPartnerPages _ _ | .startTest _ _ _ _ _ _ _ | .cancelTest _ _ _ | .getQueue _ _ | .restoreEngine _ _
  | .getResult _ _ | .readTrace _ _ _ _ _ | .releaseTrace _ _ | .fetchReports _ | .getSummary _
  | .energyPresent _ | .energyAbsent _ | .partnerWord _ _ | .trainingConverged _ _ _ _ | .trainingFailed _
  | .marginSample _ _ | .signalLost _ | .exchangeTimerExpiry _ | .trainingTimerExpiry _ | .holdoffWaitEnd _
  | .energyAbsenceTimerExpiry _ | .recheckTimerExpiry _ | .busCheckPass _ | .busCheckFail _ | .listenWaitEnd _
  | .analysisDone _ | .releaseEnd _ | .mrxCharacter _ _ | .gapTimerExpiry | .replySent | .powerOn | .resetAssert
  | .resetRelease => true

end Sys2Proof
end

