-- ==== Sys2Proof/Certificates/Slice0/Obligations.lean ====
section
/-! DEFINITION. The statements for the provers. Requests are stated as the host's commands on a free line; what a busy
line does with them, and how the line's characters make them, is stated first. -/

open Sys2Proof Sys2Proof.Machine

/-! ### Steps and the management line -/

/-- One step takes the command at the front of the queue and executes it with the queue's rest (the model's own queue,
entry 18). -/
def Obligations.StepTakesFrontCommand : Prop :=
  ∀ (c : Instr) (s : State), step { s with pending := c :: s.pending } = exec c s

/-- Every request that finds the line free is handed to its owner at once and its reply begins to leave, with the
request's TAG and its KIND plus 80h (R177, R183, R185; entry 1). -/
def Obligations.FreeLineServesRequestAtOnce : Prop :=
  ∀ (i : Instr) (tag : Byte) (r : Request) (s : State),
    i.request = some (tag, r) → r.wf = true → s.lineFree →
      exec i s = .next ((own r s).1.replied tag (r.kind + 0x80#8) (own r s).2)

/-- Requests and their bodies correspond exactly, so no byte of a body is dropped (R186, R197, R198, R199, R200): every
request's body reads back as that request; a kind outside the 22 is UNKNOWN_KIND; a body of the kind's length is some
request with just this kind and body; any other length is BAD_LENGTH. -/
def Obligations.BodiesReadBack : Prop :=
  (∀ r : Request, r.wf = true → parseRequest r.kind r.body = .request r) ∧
  ∀ (k : Byte) (b : List Byte),
    (k.toNat = 0 ∨ 0x16 < k.toNat → parseRequest k b = .unknownKind) ∧
    (∀ n, bodyLength k.toNat = some n →
      if b.length = n then ∃ r, parseRequest k b = .request r ∧ r.kind = k ∧ r.body = b
      else parseRequest k b = .badLength) ∧
    (k = 0x0B#8 →
      if 2 ≤ b.length ∧ b.length = 2 + 4 * (b.getD 1 0).toNat
      then ∃ r, parseRequest k b = .request r ∧ r.kind = k ∧ r.body = b
      else parseRequest k b = .badLength)

/-- The characters of a request frame, sent to a receiver in HUNT, do what the request's command does; so do those of
any good frame offered to the inbox (R177 to R182; that the command stands for its characters is entry 1). -/
def Obligations.FrameCharactersAreTheCommand : Prop :=
  ∀ s : State, s.resetLow = false → s.receiver = .hunt →
    (∀ f : Frame, f.body.length ≤ 242 → runAll (characters f.bytes) s = .next (s.offerFrame f)) ∧
    (∀ (i : Instr) (tag : Byte) (r : Request), i.request = some (tag, r) → r.wf = true →
      runAll (characters (r.frame tag).bytes) s = exec i s)

/-- The receiver, character by character before a frame is complete, and the gap timer (R179, R180); nothing is taken
from MRX while RESET is low (R189); a frame of any kind and body whose two CRC characters are wrong leaves no trace
(R181); and the ten levels of a character, with a low stop bit as its framing error (R176). -/
def Obligations.ReceiverRules : Prop :=
  (∀ (s : State) (c : Byte) (framingError : Bool),
    (s.resetLow = true → exec (.mrxCharacter c framingError) s = .next s) ∧
    (s.resetLow = false → s.receiver = .hunt →
      exec (.mrxCharacter c framingError) s =
        .next (if framingError = false ∧ c = 0xA5#8 then { s with receiver := .frame none [] } else s)) ∧
    (∀ bytes, s.resetLow = false → s.receiver = .frame none bytes →
      exec (.mrxCharacter c framingError) s =
        .next (if framingError = false ∧ 2 ≤ c.toNat ∧ c.toNat ≤ 244
               then { s with receiver := .frame (some c.toNat) [] } else { s with receiver := .hunt })) ∧
    (∀ n bytes, s.resetLow = false → s.receiver = .frame (some n) bytes → framingError = true →
      exec (.mrxCharacter c framingError) s = .next { s with receiver := .hunt }) ∧
    (∀ n bytes, s.resetLow = false → s.receiver = .frame (some n) bytes → framingError = false →
      bytes.length + 1 < n + 2 →
      exec (.mrxCharacter c framingError) s = .next { s with receiver := .frame (some n) (bytes ++ [c]) }) ∧
    exec .gapTimerExpiry s = .next { s with receiver := .hunt }) ∧
  (∀ (s : State) (f : Frame) (c : Word), s.resetLow = false → s.receiver = .hunt → f.body.length ≤ 242 →
    c ≠ crc16 f.covered → runAll (characters (0xA5#8 :: (f.covered ++ bytes16 c))) s = .next s) ∧
  ∀ (c : Byte) (stop : Bool),
    characterLevels c = [false] ++ (List.range 8).map (fun i => c.getLsbD i) ++ [true] ∧
    characterOf ([false] ++ (List.range 8).map (fun i => c.getLsbD i) ++ [stop]) = some (c, !stop)

/-- The inbox and the reply sender (R182 to R186, R189). A request that finds a reply on the wire waits in the inbox;
with four waiting it is answered INBOX_FULL once, and discarded after that. When a reply has left, the overflow reply
goes first, then the oldest request of the inbox is dispatched, else the sender rests. -/
def Obligations.InboxAndSender : Prop :=
  (∀ (i : Instr) (tag : Byte) (r : Request) (s : State), i.request = some (tag, r) →
    (s.resetLow = true → exec i s = .next s) ∧
    (∀ x m, s.resetLow = false → s.sender = .sending x m →
      (s.inbox.length < 4 → exec i s = .next { s with inbox := s.inbox ++ [r.frame tag] }) ∧
      (4 ≤ s.inbox.length → s.overflow = none →
        exec i s =
          .next { s with overflow := some { tag, kind := r.kind + 0x80#8, status := .inboxFull, body := [] } }) ∧
      (∀ y, 4 ≤ s.inbox.length → s.overflow = some y → exec i s = .next s))) ∧
  (∀ (s : State) (x : Reply), s.sender = .sending x none →
    (∀ y, s.overflow = some y → exec .replySent s = .next { s with sender := .sending y none, overflow := none }) ∧
    (s.overflow = none → s.inbox = [] → exec .replySent s = .next { s with sender := .idle }) ∧
    (∀ f rest, s.overflow = none → s.inbox = f :: rest →
      (∀ r, parseRequest f.kind f.body = .request r →
        exec .replySent s =
          .next ((own r { s with sender := .idle, inbox := rest }).1.replied f.tag (f.kind + 0x80#8)
                 (own r { s with sender := .idle, inbox := rest }).2)) ∧
      (parseRequest f.kind f.body = .unknownKind →
        exec .replySent s =
          .next { s with
                  inbox := rest,
                  sender := .sending { tag := f.tag, kind := f.kind + 0x80#8, status := .unknownKind, body := [] } none }) ∧
      (parseRequest f.kind f.body = .badLength →
        exec .replySent s =
          .next { s with
                  inbox := rest,
                  sender := .sending { tag := f.tag, kind := f.kind + 0x80#8, status := .badLength, body := [] } none })))

/-- What the part shows. IDENTIFY, GET_SUMMARY, GET_QUEUE and GET_RESULT answer from the state and change nothing (R187,
R191, R77, R140); the layouts of their bodies are stated in `ReplyLayouts`. A trace is current while its slot holds it
(R140). Every transmitter sends what its link state calls for, and nothing while RESET is low (R1, R13, R189); a null
page's data is a free value (entry 24). A bank switch joins the connected port from CONNECT to RELEASE (R83), and a pulse
is launched only on the joined port's current pair, in PULSE, with the run reach's width (R107, R108). MTX carries the
characters of the reply that leaves and is idle otherwise (R176). -/
def Obligations.ReadRequestsShowTheState : Prop :=
  (∀ (s : State) (tag : Byte), s.lineFree →
    exec (.identify tag) s =
      .next (s.replied tag 0x81#8 (taken [0x4B, 0x12, 0xC6, 1, byteOf s.lastCause.code, 48])) ∧
    exec (.getSummary tag) s = .next (s.replied tag 0x96#8 (taken s.summaryBody)) ∧
    (∀ first : Byte,
      exec (.getQueue tag first) s =
        .next (s.replied tag 0x90#8
          { status := if 1 ≤ first.toNat ∧ first.toNat ≤ 48 then .ok else .clamped,
            body := s.queueBody (if first.toNat = 0 then 1 else min first.toNat 48), restart := none })) ∧
    (∀ (port : Byte) (p : PortId), portIs port p →
      exec (.getResult tag port) s =
        .next (s.replied tag 0x92#8
          (match s.result p with
           | some r => taken (resultBody r (s.traceCurrent r))
           | none => refuse .notFound)))) ∧
  (∀ (s : State) (r : ResultRecord),
    s.traceCurrent r = true ↔
      r.disposition = .held ∧ ∃ t h c, r.slot = some t ∧ s.slot t = .held h c ∧ h.number = r.number ∧ h.port = r.port) ∧
  (∀ (s : State) (p : PortId) (q : Port), q = s.port p →
    s.output p =
      if s.resetLow = true then .off
      else match q.state with
        | .disabled | .holdoff | .stalled => .off
        | .listen => .presence
        | .offer => .offerWord q.ownOffer
        | .extend =>
          .pageWord (match q.sending with
            | none => none
            | some { page := some g, more := m, parity := x } =>
              some { tag := g.tag, data := g.data, more := m, parity := x, ack := q.ownAck }
            | some { page := none, more := m, parity := x } =>
              some { tag := 0, data := Config.nullPageData p q.draws, more := m, parity := x, ack := q.ownAck })
        | .train => .training q.training
        | .up => .data
        | .test => .engine) ∧
  (∀ (s : State) (b : BankId) (p : PortId),
    s.bankSwitch b = some p ↔
      s.resetLow = false ∧ ∃ u, s.bank b = some u ∧ u.port = p ∧
        ((s.engine u.engine).state = .connect ∨ (s.engine u.engine).state = .listen ∨
          (s.engine u.engine).state = .pulse ∨ (s.engine u.engine).state = .analyse)) ∧
  (∀ (s : State) (p : PortId) (x : Pair) (ns : Nat),
    s.driven p x = some ns ↔
      s.resetLow = false ∧ ∃ (u : BankUse) (j : Job) (m : Meas), s.bank (bankOf p) = some u ∧ u.port = p ∧
        (s.engine u.engine).state = .pulse ∧ (s.engine u.engine).job = some j ∧ (s.engine u.engine).meas = some m ∧
        m.pair = x ∧
        ns = (match j.reach, m.run with
              | .short, _ => 4
              | .medium, _ | .auto, .first => 8
              | .long, _ | .auto, .rerun => 16)) ∧
  (∀ s : State,
    s.mtx =
      match s.resetLow, s.sender with
      | false, .sending x _ =>
        .levels (x.bytes.flatMap (fun c => [false] ++ (List.range 8).map (fun i => c.getLsbD i) ++ [true]))
      | false, .idle | true, _ => .idle)

/-- The characters of a reply (R177, R178, R197, R198) with its status code (R195), and the bodies of GET_SUMMARY, GET_QUEUE
and GET_RESULT, byte by byte (R191, R195, R77, R197, R201). A queue record's hold mark is the hold of its port's entry for
its number (R152). -/
def Obligations.ReplyLayouts : Prop :=
  (∀ (x : Reply) (covered : List Byte),
    covered =
      [BitVec.ofNat 8 (x.body.length + 3), x.tag, x.kind,
       match x.status with
       | .ok => 0x00#8 | .clamped => 0x01#8 | .unknownKind => 0x80#8 | .badLength => 0x81#8 | .badPort => 0x82#8
       | .badValue => 0x83#8 | .portBusy => 0x84#8 | .linkUp => 0x85#8 | .noEngine => 0x86#8 | .phaseBusy => 0x87#8
       | .notFound => 0x88#8 | .slotBusy => 0x89#8 | .inboxFull => 0x8A#8] ++ x.body →
    x.bytes = [0xA5#8] ++ covered ++ [(crc16 covered).extractLsb' 8 8, (crc16 covered).extractLsb' 0 8]) ∧
  ∀ s : State,
    (s.reportsSound → ∀ r : TestRecord,
      s.holdMark r = true ↔ ∃ x, Entry.port x ∈ s.reports ∧ x.port = r.port ∧ x.hold = some r.number) ∧
    (s.summaryBody.length = 24 ∧
      (∀ p : PortId,
        ((s.summaryBody.getD (p.val / 8) 0).getLsbD (p.val % 8) = true ↔ (s.port p).flags ≠ 0) ∧
        ((s.summaryBody.getD (6 + p.val / 8) 0).getLsbD (p.val % 8) = true ↔ (s.port p).state = .up) ∧
        ((s.summaryBody.getD (12 + p.val / 8) 0).getLsbD (p.val % 8) = true ↔ (s.port p).state = .stalled)) ∧
      (∀ e : EngineId, s.summaryBody.getD (18 + e.val) 0 = byteOf (s.engine e).state.code) ∧
      slice 22 2 s.summaryBody = [byteOf s.queue.length, byteOf (allSlots.countP (fun t => s.slot t == .free))]) ∧
    (∀ n : Nat, 1 ≤ n →
      s.queueBody n =
        [byteOf s.queue.length] ++ bytesOf16 s.nextNumber ++ [byteOf (min 12 (s.queue.length - (n - 1)))] ++
          ((s.queue.drop (n - 1)).take 12).flatMap (fun r =>
            bytesOf16 r.number ++
              [byteOf (r.port.val + 1), byteOf r.origin.code, byteOf r.reach.code, byteOf r.avg, byteOfBool r.capture,
               byteOf r.priority, byteOfBool r.allowDrop] ++
              (match r.state with
               | .pending => [0, if s.holdMark r then 2 else 0, 0]
               | .running e => [1, if s.holdMark r then 3 else 1, byteOf (e.val + 1)]))) ∧
    (∀ (r : ResultRecord) (current : Bool),
      (resultBody r current).length = 69 ∧
      slice 0 13 (resultBody r current) =
        [byteOf (r.port.val + 1)] ++ bytesOf16 r.number ++ [byteOf r.origin.code, byteOf r.reach.code, byteOf r.avg] ++
          bytesOf16 r.velocity ++ [byteOf r.outcome.code, byteOf r.disposition.code] ++
          (match r.slot with
           | some t => [1, byteOf (t.val + 1)]
           | none => [0, 0]) ++ [if current then 1 else 0] ∧
      ∀ x : Pair,
        slice (13 + 14 * x.code) 14 (resultBody r current) =
          (match quadGet r.pairs x with
           | { pair := y, cls := c, measured := m, echo := g, partner := z } =>
             [byteOf y.code, byteOf c.code,
              (if m.isSome then 1 else 0) + (if g.isSome then 2 else 0) + (if z.isSome then 4 else 0)] ++
               (match m with
                | some m => [byteOf m.reach.code, byteOf m.attempts] ++ bytesOf16 m.spread
                | none => [0, 0, 0, 0]) ++
               (match g with
                | some g => bytesOf16 g.i0 ++ bytesOfInt g.peak ++ bytesOf16 g.distance
                | none => [0, 0, 0, 0, 0, 0]) ++
               [match z with
                | some z => byteOf z.code
                | none => 0]))

/-- The codes of every enumerated field that a reply carries, each code being the place of its value in its row of the
table; the places of the speed classes and of the event kinds in their sets; and the two bytes of a condition word: the
place and code of each of its nine fields, what is sent reads back, what reads is what was sent, and just the words with a
SPEED of 6 or 7 or a ROLE of 3 do not read (R195). -/
def Obligations.ConditionWordReadsBack : Prop :=
  (∀ x : LinkState,
    [LinkState.disabled, .listen, .offer, .extend, .train, .up, .holdoff, .stalled, .test][x.code]? = some x) ∧
  (∀ x : Speed, [Speed.s100, .s1g, .s2g5, .s5g, .s10g][x.code - 1]? = some x ∧ 1 ≤ x.code) ∧
  (∀ x : Role, [Role.lead, .follow][x.code - 1]? = some x ∧ 1 ≤ x.code) ∧
  (∀ x : RoleClass, [RoleClass.forceLead, .forceFollow, .preferLead, .preferFollow][x.code]? = some x) ∧
  (∀ x : PairMap, [PairMap.straight, .swapAB, .swapCD, .swapBoth][x.code]? = some x) ∧
  (∀ x : LinkMode, [LinkMode.exchange, .forced][x.code]? = some x) ∧
  (∀ x : Reach, [Reach.short, .medium, .long, .auto][x.code]? = some x) ∧
  (∀ x : RunReach, [RunReach.short, .medium, .long][x.code]? = some x) ∧
  (∀ x : Pair, [Pair.a, .b, .c, .d][x.code]? = some x) ∧
  (∀ x : PairClass,
    [PairClass.normal, .opened, .short, .highImpedance, .lowImpedance, .crossShort, .noisy, .notTested][x.code]? =
      some x) ∧
  (∀ x : TestOutcome,
    [TestOutcome.complete, .partnerActive, .aborted, .busFault, .skippedLinkUp, .noEngine, .cancelled][x.code]? =
      some x) ∧
  (∀ x : Origin, [Origin.request, .auto, .recheck][x.code]? = some x) ∧
  (∀ x : DownCause, [DownCause.admin, .signalLost, .margin, .restart, .test][x.code]? = some x) ∧
  (∀ x : StallCause, [StallCause.noCommonSpeed, .roleConflict, .roleTie, .trainingExhausted][x.code]? = some x) ∧
  (∀ x : WatchState, [WatchState.unarmed, .armed, .tripped][x.code]? = some x) ∧
  (∀ x : EngineState,
    [EngineState.idle, .connect, .listen, .pulse, .analyse, .release, .outOfService][x.code]? = some x) ∧
  (∀ x : Disposition, [Disposition.notRequested, .held, .traceNone, .discarded][x.code]? = some x) ∧
  (∀ x : RestartCause, [RestartCause.powerOn, .resetLine, .coldRequest, .warmRequest][x.code]? = some x) ∧
  (∀ x : RecheckMode, [RecheckMode.once, .repeat][x.code]? = some x) ∧
  (∀ e : EngineId, [RecordState.pending, .running e].map RecordState.code = [0, 1]) ∧
  (∀ (e : EngineId) (n : Nat) (h : TraceHeader) (c : Quad (List Int)),
    [Slot.free, .filling e n, .held h c].map Slot.code = [0, 1, 2]) ∧
  [none, some false, some true].map ackCode = [0, 1, 2] ∧ [false, true].map byteOfBool = [0, 1] ∧
  (∀ (x : SpeedSet) (c : Speed),
    [Speed.s100, .s1g, .s2g5, .s5g, .s10g][c.idx]? = some c ∧ hasSpeed x c = x.getLsbD c.idx) ∧
  (∀ (x : KindSet) (k : EventKind),
    [EventKind.linkUp, .linkDown, .trainFail, .downshift, .stall, .exchangeTimeout, .marginLow, .departure,
     .testDone][k.idx]? = some k ∧ hasKind x k = x.getLsbD k.idx) ∧
  (∀ w : CondWord,
    (encodeWord w).getLsbD 15 = w.link ∧
    (encodeWord w).extractLsb' 12 3 =
      (match w.speed with
       | none => 0#3
       | some .s100 => 1#3
       | some .s1g => 2#3
       | some .s2g5 => 3#3
       | some .s5g => 4#3
       | some .s10g => 5#3) ∧
    (encodeWord w).extractLsb' 10 2 =
      (match w.role with
       | none => 0#2
       | some .lead => 1#2
       | some .follow => 2#2) ∧
    (encodeWord w).extractLsb' 8 2 =
      (match w.pairMap with
       | .straight => 0#2
       | .swapAB => 1#2
       | .swapCD => 2#2
       | .swapBoth => 3#2) ∧
    (encodeWord w).extractLsb' 4 4 = w.polarity ∧ (encodeWord w).getLsbD 3 = w.energy ∧
    (encodeWord w).getLsbD 2 = w.marginLow ∧ (encodeWord w).getLsbD 1 = w.stalled ∧
    (encodeWord w).getLsbD 0 = w.testing) ∧
  (∀ w : CondWord, decodeWord (encodeWord w) = some w) ∧
  (∀ (x : Word) (w : CondWord), decodeWord x = some w → encodeWord w = x) ∧
  (∀ x : Word, decodeWord x = none ↔ 6 ≤ (x.extractLsb' 12 3).toNat ∨ (x.extractLsb' 10 2).toNat = 3)

/-- Every request that names a port outside 1 to 48 is refused with BAD_PORT and changes nothing (R186). -/
def Obligations.BadPortRefused : Prop :=
  ∀ (i : Instr) (tag : Byte) (r : Request) (port : Byte) (s : State),
    i.request = some (tag, r) → r.wf = true → namedPort r = some port → noPort port → s.lineFree →
      exec i s = .next (s.replied tag (r.kind + 0x80#8) (refuse .badPort))

/-! ### Requests to a port -/

/-- SET_ADMIN (R2, R3, R5, R6, R8, R44). ENABLE: a DISABLED port enters LISTEN and what follows from it, any other keeps
its link state. DISABLE: DISABLED and TEST keep their link state, UP makes a LINK_DOWN with cause ADMIN, the rest enter
DISABLED. Any other action is refused. The reply shows the port after the grant pass that a departure's submission may
call for (entry 9). No other request is taken meanwhile (`State.apart`, R183, R192). -/
def Obligations.SetAdminByLinkState : Prop :=
  ∀ (s : State) (tag port : Byte) (p : PortId), s.lineFree → s.passDue = false → portIs port p →
    (∀ t : State,
      t = s.setPort p
            (if (s.port p).state = .disabled
             then Port.listening p (s.profile p) { s.port p with enabled := true }
             else { s.port p with enabled := true }) →
      exec (.setAdmin tag port 1) s =
        .next (t.replied tag 0x85#8 (taken [byteOf (t.port p).state.code, byteOfBool (t.port p).enabled]))) ∧
    (∀ t : State,
      t = (match (s.port p).state with
           | .disabled | .test => s.setPort p { s.port p with enabled := false }
           | .listen | .offer | .extend | .train | .holdoff =>
             s.setPort p { (s.port p).bareIn .disabled with enabled := false }
           | .stalled => s.apart fun s => s.becomes p { (s.port p).bareIn .disabled with enabled := false } []
           | .up =>
             s.apart fun s =>
               s.becomes p { ((s.port p).dropped .admin).bareIn .disabled with enabled := false } [.linkDown .admin]) →
      exec (.setAdmin tag port 0) s =
        .next (t.replied tag 0x85#8 (taken [byteOf (t.port p).state.code, byteOfBool (t.port p).enabled]))) ∧
    (∀ action : Byte, 2 ≤ action.toNat →
      exec (.setAdmin tag port action) s = .next (s.replied tag 0x85#8 (refuse .badValue)))

/-- PORT_RESTART by link state (R39, R32, R33, R44, R89): memory and tie counter are cleared everywhere; every state but
DISABLED and TEST enters HOLDOFF, from UP by a LINK_DOWN with cause RESTART; in TEST the return-to-stall mark is cleared
and a running test aborted. The reply shows the link state after the grant pass that a departure's submission may call
for (the model's choice, entry 9). No other request is taken meanwhile (`State.apart`, R183, R192). -/
def Obligations.PortRestartForgets : Prop :=
  ∀ (s : State) (tag port : Byte) (p : PortId), s.lineFree → s.passDue = false → portIs port p →
    ∀ t : State,
      t = (match (s.port p).state with
           | .disabled => s.setPort p { (s.port p).forgetful with tie := 0 }
           | .listen | .offer | .extend | .train | .holdoff =>
             s.setPort p { (s.port p).forgetful.holding (s.profile p).holdoffMs with tie := 0 }
           | .stalled =>
             s.apart fun s => s.becomes p { (s.port p).forgetful.holding (s.profile p).holdoffMs with tie := 0 } []
           | .up =>
             s.apart fun s =>
               s.becomes p { ((s.port p).forgetful.dropped .restart).holding (s.profile p).holdoffMs with tie := 0 }
                 [.linkDown .restart]
           | .test =>
             s.apart fun s => match s.bank (bankOf p) with
             | some u =>
               if u.port = p
               then (State.abort (s.setPort p { (s.port p).forgetful with tie := 0, returnToStall := false })
                      u.engine).settle
               else s.setPort p { (s.port p).forgetful with tie := 0, returnToStall := false }
             | none => s.setPort p { (s.port p).forgetful with tie := 0, returnToStall := false }) →
      exec (.portRestart tag port) s = .next (t.replied tag 0x86#8 (taken [byteOf (t.port p).state.code]))

/-- GET_PORT: 58 bytes at the offsets of the layout, the optional groups marked by the presence byte and sent as zeros
when absent (R190, R196, R200). The effective set is the allowed set without what is removed, or forced_speed alone in
FORCED mode (R30). -/
def Obligations.GetPortLayout : Prop :=
  ∀ (s : State) (tag port : Byte) (p : PortId), s.lineFree → portIs port p →
    ∃ b : List Byte, exec (.getPort tag port) s = .next (s.replied tag 0x87#8 (taken b)) ∧ b.length = 58 ∧
      slice 0 3 b = [port, byteOf (s.port p).state.code, byteOfBool (s.port p).enabled] ∧
      slice 3 2 b = bytes16 (encodeWord (s.port p).word) ∧
      slice 5 1 b =
        [BitVec.setWidth 8
          (match (s.profile p).linkMode with
           | .exchange => (s.profile p).allowed &&& ~~~(s.port p).removed
           | .forced => 1#5 <<< (s.profile p).forced.idx)] ∧
      (∀ x : Byte, slice 6 1 b = [x] →
        x.getLsbD 0 = (s.port p).ownOffer.isSome ∧ x.getLsbD 1 = (s.port p).partnerOffer.isSome ∧
        (x.getLsbD 2 = true ↔ (s.port p).state = .offer ∨ (s.port p).state = .extend) ∧
        (x.getLsbD 3 = true ↔ (s.port p).state = .train) ∧ (x.getLsbD 4 = true ↔ (s.port p).state = .up) ∧
        (x.getLsbD 5 = true ↔ (s.port p).state = .up ∧ (s.port p).smoothed.isSome) ∧
        x.getLsbD 6 = (s.port p).lastDown.isSome ∧
        (x.getLsbD 7 = true ↔ (s.port p).stallCause.isSome ∧
          ((s.port p).state = .stalled ∨ (s.port p).state = .test ∧ (s.port p).returnToStall = true))) ∧
      slice 7 2 b = [byteOf (s.port p).tie, byteOfBool (s.port p).returnToStall] ∧
      slice 9 2 b = bytesOf16 (s.port p).samples ∧
      slice 11 10 b =
        bytesOf16 (s.port p).counters.linkUps ++ bytesOf16 (s.port p).counters.linkDrops ++
          bytesOf16 (s.port p).counters.trainFailures ++ bytesOf16 (s.port p).counters.exchangeTimeouts ++
          bytesOf16 (s.port p).counters.downshifts ∧
      slice 21 2 b = bytes16 ((s.port p).flags.setWidth 16) ∧
      slice 23 4 b =
        bytes16 (encodeWord (s.port p).watch.expectation) ++ bytes16 ((s.port p).watch.mask.setWidth 16) ∧
      slice 27 2 b =
        [byteOf (s.port p).watch.state.code, if (s.port p).state = .test then 1 else 0] ∧
      slice 29 3 b =
        [byteOf (s.port p).pages.length, byteOf (s.port p).log.length, byteOfBool (s.port p).truncated] ∧
      slice 32 6 b =
        [byteOf (s.port p).failCounts.s100, byteOf (s.port p).failCounts.s1g, byteOf (s.port p).failCounts.s2g5,
         byteOf (s.port p).failCounts.s5g, byteOf (s.port p).failCounts.s10g, speedByte (s.port p).removed] ∧
      (∀ (n : Nat) (w : Option OfferWord),
        n = 38 ∧ w = (s.port p).ownOffer ∨ n = 43 ∧ w = (s.port p).partnerOffer →
        slice n 5 b =
          (match w with
           | some w =>
             [speedByte w.speeds, byteOf w.roleClass.code] ++ bytes16 (w.seed.setWidth 16) ++
               [byteOfBool w.hasPages + (if w.heard then 2 else 0)]
           | none => [0, 0, 0, 0, 0])) ∧
      slice 48 2 b =
        (if (s.port p).state = .offer ∨ (s.port p).state = .extend
         then [match (s.port p).ownAck with
               | none => 0
               | some false => 1
               | some true => 2,
               byteOfBool (s.port p).localDone + (if (s.port p).partnerDone then 2 else 0)]
         else [0, 0]) ∧
      slice 50 2 b =
        (match (s.port p).state, (s.port p).training with
         | .train, some (c, x) => [byteOf c.code, byteOf x.code]
         | _, _ => [0, 0]) ∧
      slice 52 3 b =
        (match (s.port p).state, (s.port p).link with
         | .up, some k => [byteOf k.speed.code, byteOf k.role.code, byteOf k.margin]
         | _, _ => [0, 0, 0]) ∧
      slice 55 1 b =
        (match (s.port p).state, (s.port p).smoothed with
         | .up, some m => [byteOf m]
         | _, _ => [0]) ∧
      slice 56 1 b =
        (match (s.port p).lastDown with
         | some c => [byteOf c.code]
         | none => [0]) ∧
      slice 57 1 b =
        (match (s.port p).stallCause with
         | some c =>
           if (s.port p).state = .stalled ∨ (s.port p).state = .test ∧ (s.port p).returnToStall = true
           then [byteOf c.code] else [0]
         | none => [0])

/-- CLEAR_FLAGS replies with the flags before the clear and clears just the named kinds (R56). -/
def Obligations.ClearFlagsClearsNamedKinds : Prop :=
  ∀ (s : State) (tag port : Byte) (kinds : Word), s.lineFree →
    (noPort port → exec (.clearFlags tag port kinds) s = .next (s.replied tag 0x88#8 (refuse .badPort))) ∧
    (∀ p : PortId, portIs port p →
      ∃ after : KindSet,
        (∀ k : EventKind, hasKind after k = (hasKind (s.port p).flags k && !hasKind (kinds.setWidth 9) k)) ∧
        exec (.clearFlags tag port kinds) s =
          .next ((s.setPort p { s.port p with flags := after }).replied tag 0x88#8
            (taken (bytes16 ((s.port p).flags.setWidth 16)))))

/-- CLEAR_COUNTERS replies with the five counters and sets them to 0, touching nothing else (R47). -/
def Obligations.ClearCountersReadsThenClears : Prop :=
  ∀ (s : State) (tag port : Byte), s.lineFree →
    (noPort port → exec (.clearCounters tag port) s = .next (s.replied tag 0x8A#8 (refuse .badPort))) ∧
    (∀ p : PortId, portIs port p →
      exec (.clearCounters tag port) s =
        .next ((s.setPort p { s.port p with
                  counters := { linkUps := 0, linkDrops := 0, trainFailures := 0, exchangeTimeouts := 0,
                                downshifts := 0 } }).replied tag 0x8A#8
          (taken (bytesOf16 (s.port p).counters.linkUps ++ bytesOf16 (s.port p).counters.linkDrops ++
            bytesOf16 (s.port p).counters.trainFailures ++ bytesOf16 (s.port p).counters.exchangeTimeouts ++
            bytesOf16 (s.port p).counters.downshifts))))

/-- SET_WATCH (R50, R53): an undefined SPEED or ROLE code is refused; else expectation and mask are replaced and the
state is ARMED if the port, outside TEST, matches now over the masked fields, and UNARMED if not. -/
def Obligations.SetWatchComparesFromUnarmed : Prop :=
  ∀ (s : State) (tag port : Byte) (expectation mask : Word), s.lineFree →
    (noPort port → exec (.setWatch tag port expectation mask) s = .next (s.replied tag 0x89#8 (refuse .badPort))) ∧
    (∀ p : PortId, portIs port p →
      (6 ≤ (expectation.extractLsb' 12 3).toNat ∨ (expectation.extractLsb' 10 2).toNat = 3 →
        exec (.setWatch tag port expectation mask) s = .next (s.replied tag 0x89#8 (refuse .badValue))) ∧
      (∀ x : CondWord, encodeWord x = expectation →
        ∀ st : WatchState,
          (st = .armed ∨ st = .unarmed) →
          (st = .armed ↔
            (s.port p).state ≠ .test ∧
            (mask.getLsbD 0 = true → (s.port p).word.link = x.link) ∧
            (mask.getLsbD 1 = true → (s.port p).word.speed = x.speed) ∧
            (mask.getLsbD 2 = true → (s.port p).word.role = x.role) ∧
            (mask.getLsbD 3 = true → (s.port p).word.pairMap = x.pairMap) ∧
            (mask.getLsbD 4 = true → (s.port p).word.polarity = x.polarity) ∧
            (mask.getLsbD 5 = true → (s.port p).word.energy = x.energy) ∧
            (mask.getLsbD 6 = true → (s.port p).word.marginLow = x.marginLow) ∧
            (mask.getLsbD 7 = true → (s.port p).word.stalled = x.stalled) ∧
            (mask.getLsbD 8 = true → (s.port p).word.testing = x.testing)) →
          exec (.setWatch tag port expectation mask) s =
            .next ((s.setPort p { s.port p with
                      watch := { expectation := x, mask := mask.setWidth 9, state := st } }).replied tag 0x89#8
              (taken [byteOf st.code]))))

/-- LOAD_PAGES, CLEAR_PAGES and GET_PARTNER_PAGES (R11, R12, R18). -/
def Obligations.PageRequests : Prop :=
  ∀ (s : State) (tag port : Byte) (p : PortId), s.lineFree → portIs port p →
    (∀ gs : List Page, gs.length ≤ 60 →
      (16 < gs.length ∨ (∃ g ∈ gs, g.tag = 0) →
        exec (.loadPages tag port gs) s = .next (s.replied tag 0x8B#8 (refuse .badValue))) ∧
      (gs.length ≤ 16 → (∀ g ∈ gs, g.tag ≠ 0) →
        ∀ n, n = min gs.length (8 - (s.port p).pages.length) →
          exec (.loadPages tag port gs) s =
            .next ((s.setPort p { s.port p with pages := (s.port p).pages ++ gs.take n }).replied tag 0x8B#8
              (taken [byteOf n, byteOf ((s.port p).pages.length + n)])))) ∧
    exec (.clearPages tag port) s =
      .next (if (s.port p).state = .extend then s.replied tag 0x8C#8 (refuse .phaseBusy)
             else (s.setPort p { s.port p with pages := [] }).replied tag 0x8C#8
               (taken [byteOf (s.port p).pages.length])) ∧
    exec (.getPartnerPages tag port) s =
      .next (s.replied tag 0x8D#8
        (taken ([byteOf (s.port p).log.length, byteOfBool (s.port p).truncated] ++
          (s.port p).log.flatMap (fun g =>
            [g.tag, g.data.extractLsb' 16 8, g.data.extractLsb' 8 8, g.data.extractLsb' 0 8]))))

/-! ### Profiles -/

/-- The clamp of a profile record whose codes are defined (R166, R168): the record stored is within every range, keeps
every value that was in range, and the status is CLAMPED just where a field was not. -/
def Obligations.ProfileClamp : Prop :=
  ∀ r : RawProfile, rawValid r = true →
    (rawClamped r).sound ∧
    (rawClamped r).downshiftAfter = min r.downshiftAfter.toNat 4 ∧
    (rawClamped r).holdoffMs = max 100 (min r.holdoffMs.toNat 5000) ∧
    (rawClamped r).exchangeMs = max 500 (min r.exchangeMs.toNat 10000) ∧
    (rawClamped r).marginAlarm = r.marginAlarm.toNat ∧ (rawClamped r).marginHyst = min r.marginHyst.toNat 50 ∧
    (rawClamped r).marginDrop = r.marginDrop.toNat ∧
    (rawClamped r).velocity = max 500 (min r.velocity.toNat 900) ∧ (rawClamped r).lossSlope = r.lossSlope.toNat ∧
    (rawClamped r).detectLevel = max 16 (min r.detectLevel.toNat 2047) ∧
    (rawClamped r).hardLevel = max ((rawClamped r).detectLevel + 1) (min r.hardLevel.toNat 4095) ∧
    (rawClamped r).crossLevel = max 16 (min r.crossLevel.toNat 4095) ∧
    (rawClamped r).noiseLimit = max 4 (min r.noiseLimit.toNat 512) ∧
    (rawClamped r).autoPriority = min r.autoPriority.toNat 7 ∧ (rawClamped r).autoAvg = min r.autoAvg.toNat 6 ∧
    (rawClamped r).recheckS = r.recheckS.toNat ∧ (rawClamped r).recheckPriority = min r.recheckPriority.toNat 7 ∧
    (rawWasClamped r = true ↔
      4 < r.downshiftAfter.toNat ∨ r.holdoffMs.toNat < 100 ∨ 5000 < r.holdoffMs.toNat ∨ r.exchangeMs.toNat < 500 ∨
      10000 < r.exchangeMs.toNat ∨ 50 < r.marginHyst.toNat ∨ r.velocity.toNat < 500 ∨ 900 < r.velocity.toNat ∨
      r.detectLevel.toNat < 16 ∨ 2047 < r.detectLevel.toNat ∨ 4095 < r.hardLevel.toNat ∨
      r.hardLevel.toNat ≤ (rawClamped r).detectLevel ∨ r.crossLevel.toNat < 16 ∨ 4095 < r.crossLevel.toNat ∨
      r.noiseLimit.toNat < 4 ∨ 512 < r.noiseLimit.toNat ∨ 7 < r.autoPriority.toNat ∨ 6 < r.autoAvg.toNat ∨
      7 < r.recheckPriority.toNat)

/-- SET_PROFILE (R167, R169): a bad range is BAD_PORT, an undefined code, an empty speed set or a foreign trigger
BAD_VALUE; else every port of the range and no other holds the clamped record. No other request is taken meanwhile
(`State.apart`, R183, R192). -/
def Obligations.SetProfileWritesRange : Prop :=
  ∀ (s : State) (tag first last : Byte) (r : RawProfile), s.lineFree →
    (noPort first ∨ noPort last ∨ last.toNat < first.toNat →
      exec (.setProfile tag first last r) s = .next (s.replied tag 0x83#8 (refuse .badPort))) ∧
    (∀ a b : PortId, portIs first a → portIs last b → a ≤ b →
      (1 < r.linkMode.toNat ∨ r.forcedSpeed.toNat = 0 ∨ 5 < r.forcedSpeed.toNat ∨ 3 < r.roleClass.toNat ∨
          3 < r.autoReach.toNat ∨ 1 < r.autoCapture.toNat ∨ 1 < r.holdReports.toNat ∨ 1 < r.recheckMode.toNat ∨
          r.allowedSpeeds &&& 0x1F#8 = 0 ∨ r.autoTriggers &&& 0x0169#16 ≠ 0 →
        exec (.setProfile tag first last r) s = .next (s.replied tag 0x83#8 (refuse .badValue))) ∧
      (r.linkMode.toNat ≤ 1 → 1 ≤ r.forcedSpeed.toNat → r.forcedSpeed.toNat ≤ 5 → r.roleClass.toNat ≤ 3 →
        r.autoReach.toNat ≤ 3 → r.autoCapture.toNat ≤ 1 → r.holdReports.toNat ≤ 1 → r.recheckMode.toNat ≤ 1 →
        r.allowedSpeeds &&& 0x1F#8 ≠ 0 → r.autoTriggers &&& 0x0169#16 = 0 →
        ∀ (write : State → State) (t : State),
          write = (fun s => (portRange a b).foldl (fun s p => s.writeProfile (rawClamped r) p) s) → t = s.apart write →
          exec (.setProfile tag first last r) s =
            .next ((s.apart fun s => (write s).settle).replied tag 0x83#8
              { status := if rawWasClamped r then .clamped else .ok,
                body := [first, last] ++ (Profile.raw (rawClamped r)).bytes, restart := none }) ∧
          (∀ p : PortId, t.profile p = if a ≤ p ∧ p ≤ b then rawClamped r else s.profile p) ∧
          (∀ p : PortId, ¬(a ≤ p ∧ p ≤ b) → t.port p = s.port p ∧ t.recheckOf p = s.recheckOf p)))

/-- What a taken write does at one port besides storing the record (R170, R171): a changed allowed set or mode clears the
memory, a changed link field moves a STALLED port to HOLDOFF or clears the mark of a port in TEST, a changed recheck
field loads the timer; every other link state, the counters, and the engines, banks, slots and results stay. -/
def Obligations.ProfileWriteConsequences : Prop :=
  ∀ (s t : State) (r old : Profile) (p : PortId), t = s.writeProfile r p → old = s.profile p →
    t.profile p = r ∧
    (∀ p', p' ≠ p → t.profile p' = s.profile p' ∧ t.port p' = s.port p' ∧ t.recheckOf p' = s.recheckOf p') ∧
    t.recheckOf p =
      (if old.recheckS = r.recheckS ∧ old.recheckMode = r.recheckMode then s.recheckOf p
       else if r.recheckS = 0 then none else some r.recheckS) ∧
    (∀ q, q = (if old.allowed = r.allowed ∧ old.linkMode = r.linkMode then s.port p else (s.port p).forgetful) →
      (t.port p).bare =
        (if old.allowed = r.allowed ∧ old.linkMode = r.linkMode ∧ old.forced = r.forced ∧ old.roleClass = r.roleClass
         then q
         else match q.state with
           | .stalled => q.holding r.holdoffMs
           | .test => { q with returnToStall := false }
           | .disabled | .listen | .offer | .extend | .train | .up | .holdoff => q).bare) ∧
    t.engines = s.engines ∧ t.banks = s.banks ∧ t.slots = s.slots ∧ t.results = s.results

/-- GET_PROFILE carries the port and the stored record (R174, R199), and a stored record, sent back, is taken whole and
unclamped. -/
def Obligations.ProfileReadsBack : Prop :=
  (∀ (s : State) (tag port : Byte), s.lineFree →
    (noPort port → exec (.getProfile tag port) s = .next (s.replied tag 0x84#8 (refuse .badPort))) ∧
    (∀ p, portIs port p →
      exec (.getProfile tag port) s =
        .next (s.replied tag 0x84#8 (taken (port :: (Profile.raw (s.profile p)).bytes))))) ∧
  (∀ q : Profile, q.sound →
    (Profile.raw q).bytes.length = 36 ∧ RawProfile.ofBytes (Profile.raw q).bytes = some (Profile.raw q) ∧
      rawValid (Profile.raw q) = true ∧ rawClamped (Profile.raw q) = q ∧ rawWasClamped (Profile.raw q) = false)

/-! ### The test queue and the arbiter -/

/-- START_TEST (R63 to R66, R186). The first check that applies refuses it and nothing changes; taken, a REQUEST record
with the fields as clamped and the first free number, which there always is, is placed behind all others, and a grant
pass runs. -/
def Obligations.StartTestByItsChecks : Prop :=
  (∀ (s : State) (tag port reach avg capture priority allowDrop : Byte) (p : PortId) (x : Reach) (n : Nat),
    s.lineFree → s.queueSound → portIs port p → x.code = reach.toNat → capture.toNat ≤ 1 → allowDrop.toNat ≤ 1 →
    (∀ r ∈ s.queue, r.port ≠ p) → ((s.port p).state = .up → allowDrop = 1) →
    (∃ e, reaches e (bankOf p) = true ∧ (s.engine e).state ≠ .outOfService) → s.nextFree n →
      exec (.startTest tag port reach avg capture priority allowDrop) s =
        .next ((State.settle
          { s with
            queue := s.queue ++ [{ number := n, port := p, origin := .request, reach := x, avg := min avg.toNat 6,
                                   capture := decide (capture = 1), priority := min priority.toNat 7,
                                   allowDrop := decide (allowDrop = 1), state := .pending }],
            nextNumber := n % 65535 + 1, passDue := true }).replied tag 0x8E#8
          { status := if 6 < avg.toNat ∨ 7 < priority.toNat then .clamped else .ok,
            body := bytesOf16 n ++ [byteOf (s.queue.length + 1)], restart := none }) ∧
      1 ≤ n ∧ n ≤ 65535) ∧
  (∀ (s : State) (tag port reach avg capture priority allowDrop : Byte), s.lineFree → s.queueSound →
    ∀ ex, ex = exec (.startTest tag port reach avg capture priority allowDrop) s →
    (noPort port → ex = .next (s.replied tag 0x8E#8 (refuse .badPort))) ∧
    (∀ p : PortId, portIs port p →
      (3 < reach.toNat ∨ 1 < capture.toNat ∨ 1 < allowDrop.toNat → ex = .next (s.replied tag 0x8E#8 (refuse .badValue))) ∧
      (reach.toNat ≤ 3 → capture.toNat ≤ 1 → allowDrop.toNat ≤ 1 →
        (∀ r ∈ s.queue, r.port = p →
          ex = .next (s.replied tag 0x8E#8
            { status := .portBusy, restart := none,
              body := bytesOf16 r.number ++ [if r.state = .pending then 0 else 1] })) ∧
        ((∀ r ∈ s.queue, r.port ≠ p) →
          ((s.port p).state = .up → allowDrop = 0 → ex = .next (s.replied tag 0x8E#8 (refuse .linkUp))) ∧
          (((s.port p).state = .up → allowDrop = 1) →
            (∀ e, reaches e (bankOf p) = true → (s.engine e).state = .outOfService) →
            ex = .next (s.replied tag 0x8E#8 (refuse .noEngine)))))) ∧
    ∃ n, s.nextFree n)

/-- CANCEL_TEST (R75, R76): its checks in order, a PENDING record completes CANCELLED, a RUNNING one is aborted. -/
def Obligations.CancelTestByRecordState : Prop :=
  ∀ (s : State) (tag selector : Byte) (value : Word), s.lineFree → s.queueSound →
    ∀ ex, ex = exec (.cancelTest tag selector value) s →
    (1 < selector.toNat ∨ selector = 0 ∧ value = 0 → ex = .next (s.replied tag 0x8F#8 (refuse .badValue))) ∧
    (selector = 1 → value.toNat = 0 ∨ 48 < value.toNat → ex = .next (s.replied tag 0x8F#8 (refuse .badPort))) ∧
    (selector = 0 ∧ value ≠ 0 ∧ (∀ r ∈ s.queue, r.number ≠ value.toNat) ∨
        selector = 1 ∧ 1 ≤ value.toNat ∧ value.toNat ≤ 48 ∧ (∀ r ∈ s.queue, r.port.val + 1 ≠ value.toNat) →
      ex = .next (s.replied tag 0x8F#8 (refuse .notFound))) ∧
    (∀ r ∈ s.queue, selector = 0 ∧ r.number = value.toNat ∨ selector = 1 ∧ r.port.val + 1 = value.toNat →
      (r.state = .pending →
        ex = .next ((s.completeRecord r .cancelled noPairs).replied tag 0x8F#8
          (taken (bytesOf16 r.number ++ [byteOf (r.port.val + 1), 6])))) ∧
      (∀ e, r.state = .running e →
        ex = .next ((s.abort e).replied tag 0x8F#8 (taken (bytesOf16 r.number ++ [byteOf (r.port.val + 1), 2])))))

/-- An auto submission (with its triggering kind) or a recheck submission (with none) merges into the port's record, or
creates one from the profile, or completes at once where no engine in service reaches the bank (R68, R69, R70). The
recheck timer submits unless the port is UP, and is loaded again or stops (R72); the aging clock raises a PENDING record
below priority 6 by one and calls a grant pass (R73). A timer that does not run does nothing (entry 5). -/
def Obligations.SubmissionsAndQueueTimers : Prop :=
  (∀ (s : State) (p : PortId) (kind : Option EventKind) (y : Nat), s.queueSound →
    y = (match kind with
         | some _ => (s.profile p).autoPriority
         | none => (s.profile p).recheckPriority) →
    (∀ r ∈ s.queue, r.port = p →
      s.submit p kind =
        State.holdNotice
          { s with queue := s.queue.map (fun x => if x.port = p then { x with priority := max x.priority y } else x),
                   passDue := s.passDue || decide (r.state = .pending ∧ r.priority < y) } p r.number kind) ∧
    (∀ n new, (∀ r ∈ s.queue, r.port ≠ p) → s.nextFree n →
      new = { number := n, port := p, origin := if kind = none then .recheck else .auto,
              reach := (s.profile p).autoReach, avg := (s.profile p).autoAvg, capture := (s.profile p).autoCapture,
              priority := y, allowDrop := true, state := .pending } →
      ((∃ e, reaches e (bankOf p) = true ∧ (s.engine e).state ≠ .outOfService) →
        s.submit p kind =
          State.holdNotice { s with queue := s.queue ++ [new], nextNumber := n % 65535 + 1, passDue := true } p n kind) ∧
      ((∀ e, reaches e (bankOf p) = true → (s.engine e).state = .outOfService) →
        s.submit p kind =
          (State.holdNotice { s with nextNumber := n % 65535 + 1 } p n kind).completeRecord new .noEngine noPairs))) ∧
  (∀ (s : State),
    (∀ p : PortId,
      (s.recheckOf p = none → exec (.recheckTimerExpiry p) s = .next s) ∧
      (∀ k t, s.recheckOf p = some k → t = (if (s.port p).state = .up then s else s.submit p none) →
        exec (.recheckTimerExpiry p) s =
          .next ((t.setRecheck p
            (if (s.profile p).recheckMode = .repeat ∧ (s.profile p).recheckS ≠ 0 then some (s.profile p).recheckS
             else none)).settle))) ∧
    (∀ n : Nat, s.queueSound →
      ((∀ r ∈ s.queue, r.number ≠ n) → exec (.agingClockExpiry n) s = .next s) ∧
      (∀ r ∈ s.queue, r.number = n →
        exec (.agingClockExpiry n) s =
          .next (if r.state = .pending ∧ r.priority < 6
                 then State.grantPass
                   { s with queue := s.queue.map (fun x => if x = r then { r with priority := r.priority + 1 } else x) }
                 else s))))

/-- One choice of the grant pass (R84): of the PENDING records whose bank is idle and reached by an IDLE engine the first
of the highest priority, with the lowest-numbered such engine; and the pass ends when no choice is left. -/
def Obligations.GrantPassChoices : Prop :=
  ∀ s : State,
    (∀ r, s.choosable r = true ↔
      r.state = .pending ∧ s.bank (bankOf r.port) = none ∧
        ∃ e, reaches e (bankOf r.port) = true ∧ (s.engine e).state = .idle) ∧
    (s.passOnce = none ↔ ∀ r ∈ s.queue, s.choosable r = false) ∧
    (∀ t, s.passOnce = some t →
      ∃ (i : Nat) (r : TestRecord) (e : EngineId), s.queue[i]? = some r ∧ s.choosable r = true ∧
        (∀ (k : Nat) (x : TestRecord), s.queue[k]? = some x → s.choosable x = true →
          x.priority < r.priority ∨ x.priority = r.priority ∧ i ≤ k) ∧
        reaches e (bankOf r.port) = true ∧ (s.engine e).state = .idle ∧
        (∀ d, d < e → reaches d (bankOf r.port) = true → (s.engine d).state ≠ .idle) ∧ t = s.grant r e) ∧
    (∀ t, s.passOnce = some t → s.grantPass = t.grantPass) ∧
    (∀ r ∈ s.grantPass.queue, s.grantPass.choosable r = false)

/-- A grant (R54, R86, R87, R88, R143): an UP port that may not be dropped completes SKIPPED_LINK_UP; else the record
runs, the bank is busy, the port enters TEST with its watch UNARMED, the lowest FREE slot is claimed for a capture, and
the engine takes up the test with its snapshot. Nothing else changes but what the LINK_DOWN reports. -/
def Obligations.GrantSteps : Prop :=
  ∀ (s : State) (r : TestRecord) (e : EngineId),
    ((s.port r.port).state = .up → r.allowDrop = false →
      s.grant r e = s.completeRecord r .skippedLinkUp noPairs) ∧
    (((s.port r.port).state = .up → r.allowDrop = true) →
      ∀ (slot : Option SlotId) (q f : Port) (w : Watch),
        (slot = none ↔ r.capture = false ∨ ∀ t, s.slot t ≠ .free) →
        (∀ t, slot = some t → s.slot t = .free ∧ ∀ u, u < t → s.slot u ≠ .free) →
        q = s.port r.port → w = { q.watch with state := .unarmed } →
        f = (match q.state with
             | .up => { (q.dropped .test).bareIn .test with watch := w, flags := q.flags ||| 2#9 }
             | .stalled => { q.bareIn .test with watch := w, stallCause := q.stallCause, returnToStall := true }
             | .disabled | .listen | .offer | .extend | .train | .holdoff | .test => { q.bareIn .test with watch := w }) →
        s.grant r e =
          { s with
            queue := s.queue.map (fun x => if x.number = r.number then { x with state := .running e } else x),
            banks := s.banks.set (bankOf r.port) (some { port := r.port, engine := e }),
            ports := s.ports.set r.port f,
            reports := if q.state = .up ∧ hasKind (s.profile r.port).reportEnables .linkDown = true
                       then addEvent r.port (.linkDown .test) f.word s.reports else s.reports,
            slots := match slot with
              | some t => s.slots.set t (.filling e r.number)
              | none => s.slots,
            engines := s.engines.set e
              { state := .connect, meas := none, finished := [], buffer := sameQuad [], faultPending := false,
                job := some { port := r.port, number := r.number, reach := r.reach, avg := r.avg, capture := r.capture,
                              slot,
                              snap := { velocity := (s.profile r.port).velocity,
                                        lossSlope := (s.profile r.port).lossSlope,
                                        detectLevel := (s.profile r.port).detectLevel,
                                        hardLevel := (s.profile r.port).hardLevel,
                                        crossLevel := (s.profile r.port).crossLevel,
                                        noiseLimit := (s.profile r.port).noiseLimit } } } })

/-- A record completes (R78, R79): it leaves the queue, the port's TEST_DONE flag is set, the event is reported if
enabled and a hold for this number released; the summary names the worst pair, the earliest of equals, by rank. -/
def Obligations.CompletionSteps : Prop :=
  (∀ (s : State) (r : TestRecord) (outcome : TestOutcome) (pairs : Quad PairRecord) (q : Port) (x : Summary),
    q = s.port r.port → x = summaryOf r.number outcome pairs →
    s.completeRecord r outcome pairs =
      { s with
        queue := s.queue.filter (fun y => decide (y.number ≠ r.number)),
        ports := s.ports.set r.port { q with flags := q.flags ||| 256#9 },
        reports := releaseHold r.port r.number x q.word
          (if hasKind (s.profile r.port).reportEnables .testDone = true
           then addEvent r.port (.testDone x) q.word s.reports else s.reports) }) ∧
  (∀ (n : Nat) (outcome : TestOutcome) (q : Quad PairRecord) (rank : PairClass → Nat),
    rank = (fun c => [PairClass.short, .crossShort, .opened, .lowImpedance, .highImpedance, .noisy, .normal,
                      .notTested].idxOf c) →
    ∃ y : Pair,
      summaryOf n outcome q =
        { number := n, outcome, worst := (quadGet q y).cls, pair := (quadGet q y).pair,
          distance := (quadGet q y).echo.map (·.distance) } ∧
      ∀ z : Pair, rank (quadGet q y).cls < rank (quadGet q z).cls ∨
        rank (quadGet q y).cls = rank (quadGet q z).cls ∧ y.code ≤ z.code)

/-- The end of a granted test on its engine (R93, R94, R95, R136, R137, R139, R144, R145): the result record, then the
claimed slot, then the completion, then RELEASE with the fault-pending mark of a bus fault; and an abort ends only a
measuring engine's test, with the finished pairs kept. What the engine still holds of its measurement state in RELEASE is
the model's choice (entry 23). -/
def Obligations.TestEndSteps : Prop :=
  ∀ (s : State) (e : EngineId) (x : Engine), x = s.engine e → s.queueSound →
    (∀ (outcome : TestOutcome) (pairs : Quad PairRecord) (j : Job) (r : TestRecord) (d : Disposition) (kept : Bool)
        (t : State),
      x.job = some j → r ∈ s.queue → r.number = j.number →
      (kept = true ↔ outcome = .complete ∨ outcome = .partnerActive) →
      d = (match j.capture, j.slot with
           | false, _ => .notRequested
           | true, none => .traceNone
           | true, some _ => if kept then .held else .discarded) →
      t = { s with
            results := s.results.set r.port (some
              { port := r.port, number := r.number, origin := r.origin, reach := r.reach, avg := r.avg,
                velocity := j.snap.velocity, outcome, disposition := d, slot := if d = .held then j.slot else none,
                pairs }),
            slots := match j.slot with
              | none => s.slots
              | some k => s.slots.set k (if kept then .held (headerOf j pairs x.buffer) x.buffer else .free) } →
      s.endTest e outcome pairs =
        (t.completeRecord r outcome pairs).setEngine e
          { x with
            state := .release,
            meas := x.meas.map (fun m => { m with waiting := false, sums := sameQuad [] }),
            buffer := if kept then x.buffer else sameQuad [],
            faultPending := x.faultPending || decide (outcome = .busFault) } ∧
      (headerOf j pairs x.buffer).number = j.number ∧ (headerOf j pairs x.buffer).port = j.port ∧
      ∀ y m, (quadGet pairs y).measured = some m →
        quadGet (headerOf j pairs x.buffer).pairs y = { reach := m.reach, count := (quadGet x.buffer y).length }) ∧
    (x.state = .idle ∨ x.state = .release ∨ x.state = .outOfService → s.abort e = s) ∧
    (∀ pairs : Quad PairRecord, x.state = .connect ∨ x.state = .listen ∨ x.state = .pulse ∨ x.state = .analyse →
      (∀ y, quadGet pairs y =
        match x.finished.find? (fun z => z.pair = y) with
        | some z => z
        | none => { pair := y, cls := .notTested, measured := none, echo := none, partner := none }) →
      s.abort e = s.endTest e .aborted pairs)

/-! ### Reports -/

/-- A port event joins its port's entry where it stands, or makes a new one at the tail (R154); an engine fault joins the
device entry or makes one (R155). -/
def Obligations.EventsJoinEntries : Prop :=
  (∀ (p : PortId) (ev : FlagEvent) (w : CondWord) (r : List Entry) (a : PortEntry → PortEntry),
    a = (fun x =>
      { x with
        kinds := x.kinds ||| (1#9 <<< ev.kind.idx), word := w,
        downCause := match ev with
          | .linkDown c => some c
          | _ => x.downCause,
        stallCause := match ev with
          | .stall c => some c
          | _ => x.stallCause,
        summary := match ev with
          | .testDone y => some y
          | _ => x.summary }) →
    ((∀ y ∈ r, y.owner ≠ some p) →
      addEvent p ev w r =
        r ++ [.port (a { port := p, kinds := 0, word := w, downCause := none, stallCause := none, summary := none,
                         hold := none })]) ∧
    (∀ l x rest, r = l ++ .port x :: rest → x.port = p → (∀ y ∈ l, y.owner ≠ some p) →
      addEvent p ev w r = l ++ .port (a x) :: rest)) ∧
  (∀ (e : EngineId) (r : List Entry),
    ((∀ y ∈ r, y.owner ≠ none) → addFault e r = r ++ [.device { restart := none, faults := 1#4 <<< e.val }]) ∧
    (∀ l x rest, r = l ++ .device x :: rest → (∀ y ∈ l, y.owner ≠ none) →
      addFault e r = l ++ .device { x with faults := x.faults ||| (1#4 <<< e.val) } :: rest))

/-- A hold is attached when there is a triggering kind, hold_reports is yes and the kind is enabled: to the port's unheld
entry, to no held one, or to a new entry without kinds (R157); the completion of the test with its number adds TEST_DONE
and the summary and takes the hold off (R159). A FETCH_REPORTS that comes together with the notice is taken before it or
after it (R162): which of the two is a free value, and that one comes together with it when it is the next command and its
owner takes it at once is the model's choice (entry 25). -/
def Obligations.HoldsComeAndGo : Prop :=
  ∀ (s : State) (p : PortId) (n : Nat) (kind : Option EventKind) (w : CondWord), w = (s.port p).word →
    ((∀ k, kind = some k → ¬((s.profile p).holdReports = true ∧ hasKind (s.profile p).reportEnables k = true)) →
      s.holdNotice p n kind = s) ∧
    (∀ k u, kind = some k → (s.profile p).holdReports = true → hasKind (s.profile p).reportEnables k = true →
      u = (if s.fetchAtHand = true ∧ s.fetch = none
           then { s with
                  choices := s.choices + 1,
                  reports := if Config.fetchFirst s.choices = true then leftAfter 6 s.reports else s.reports,
                  fetch := if Config.fetchFirst s.choices = true
                    then some { given := (s.reports.filter (fun x => x.held = false)).take 6,
                                unheld := ((s.reports.filter (fun x => x.held = false)).drop 6).length,
                                held := (s.reports.filter (fun x => x.held = true)).length }
                    else none }
           else s) →
      ((∀ y ∈ u.reports, y.owner ≠ some p) →
        s.holdNotice p n kind =
          { u with reports := u.reports ++
              [.port { port := p, kinds := 0, word := w, downCause := none, stallCause := none, summary := none,
                       hold := some n }] }) ∧
      (∀ l x rest, u.reports = l ++ .port x :: rest → x.port = p → (∀ y ∈ l, y.owner ≠ some p) →
        s.holdNotice p n kind =
          if x.hold = none then { u with reports := l ++ .port { x with hold := some n } :: rest } else u)) ∧
    (∀ (tag : Byte) (rest : List Instr), s.pending = .fetchReports tag :: rest → s.lineFree → s.fetchAtHand = true) ∧
    (∀ (f : State → State), (s.apart f).fetch = (f { s with pending := [] }).fetch ∧
      ({ s with pending := [] } : State).fetchAtHand = false) ∧
    (∀ (x : Summary) (r : List Entry),
      ((∀ y ∈ r, y.owner ≠ some p) → releaseHold p n x w r = r) ∧
      (∀ l y rest, r = l ++ .port y :: rest → y.port = p → (∀ z ∈ l, z.owner ≠ some p) →
        releaseHold p n x w r =
          if y.hold = some n
          then l ++ .port { y with kinds := y.kinds ||| 256#9, word := w, summary := some x, hold := none } :: rest
          else r))

/-- FETCH_REPORTS (R161, R203): the six oldest unheld entries leave, the others keep their order; the reply counts what
is returned and left, and carries each entry with the parts its kinds announce. One that the queue has taken already,
inside the event before it (R162), answers with what it took there. ATTN is low exactly while an unheld entry is in the
queue and RESET is not low (R163, R189). -/
def Obligations.FetchReportsTakesSix : Prop :=
  (∀ (s : State) (tag : Byte) (x : Fetched), s.lineFree → s.fetch = some x →
    exec (.fetchReports tag) s =
      .next (State.replied { s with fetch := none } tag 0x95#8
        (taken ([byteOf x.given.length, byteOf x.unheld, byteOf x.held] ++ x.given.flatMap entryBytes)))) ∧
  (∀ (s : State) (tag : Byte), s.lineFree → s.fetch = none →
    ∃ left : List Entry, left = leftAfter 6 s.reports ∧
      exec (.fetchReports tag) s =
        .next (State.replied { s with reports := left } tag 0x95#8
          (taken ([byteOf ((s.reports.filter (fun x => x.held = false)).take 6).length,
                   byteOf ((s.reports.filter (fun x => x.held = false)).drop 6).length,
                   byteOf (s.reports.filter (fun x => x.held = true)).length] ++
            ((s.reports.filter (fun x => x.held = false)).take 6).flatMap entryBytes))) ∧
      left.Sublist s.reports ∧
      left.filter (fun x => x.held = false) = (s.reports.filter (fun x => x.held = false)).drop 6 ∧
      left.filter (fun x => x.held = true) = s.reports.filter (fun x => x.held = true)) ∧
  (∀ x : PortEntry, (Entry.port x).sound →
    ((Entry.port x).held = true ↔ x.hold ≠ none) ∧
    entryBytes (.port x) =
      [0, byteOf (x.port.val + 1)] ++ bytes16 (x.kinds.setWidth 16) ++ bytes16 (encodeWord x.word) ++
        (match x.downCause with
         | some c => [byteOf c.code]
         | none => []) ++
        (match x.stallCause with
         | some c => [byteOf c.code]
         | none => []) ++
        (match x.summary with
         | some y =>
           bytesOf16 y.number ++ [byteOf y.outcome.code, byteOf y.worst.code, byteOf y.pair.code] ++
             (match y.distance with
              | some d => 1 :: bytesOf16 d
              | none => [0, 0, 0])
         | none => [])) ∧
  (∀ x : DeviceEntry, (Entry.device x).held = false ∧
    entryBytes (.device x) =
      [1, (if x.restart = none then 0 else 1) + (if x.faults = 0 then 0 else 2)] ++
        (match x.restart with
         | some c => [byteOf c.code]
         | none => []) ++
        (if x.faults = 0 then [] else [x.faults.setWidth 8])) ∧
  (∀ s : State, s.attnLow = true ↔ s.resetLow = false ∧ ∃ x ∈ s.reports, x.held = false)

/-! ### Traces -/

/-- READ_TRACE (R146, R147, R202). -/
def Obligations.ReadTraceByItsChecks : Prop :=
  ∀ (s : State) (tag slot pair : Byte) (first count : Word), s.lineFree →
    ∀ ex, ex = exec (.readTrace tag slot pair first count) s →
    (slot.toNat = 0 ∨ 8 < slot.toNat ∨ 3 < pair.toNat → ex = .next (s.replied tag 0x93#8 (refuse .badValue))) ∧
    (∀ (t : SlotId) (x : Pair), slot.toNat = t.val + 1 → pair.toNat = x.code →
      (s.slot t = .free → ex = .next (s.replied tag 0x93#8 (refuse .notFound))) ∧
      (∀ e n, s.slot t = .filling e n → ex = .next (s.replied tag 0x93#8 (refuse .slotBusy))) ∧
      (∀ (h : TraceHeader) (c : Quad (List Int)) (values : List Int), s.slot t = .held h c →
        values = ((quadGet c x).drop first.toNat).take (min count.toNat 96) →
        ex = .next (s.replied tag 0x93#8
          { status := if 96 < count.toNat then .clamped else .ok, restart := none,
            body := bytesOf16 h.number ++ [byteOf (h.port.val + 1)] ++
              [h.pairs.a, h.pairs.b, h.pairs.c, h.pairs.d].flatMap (fun y => byteOf y.reach.code :: bytesOf16 y.count) ++
              [pair] ++ bytes16 first ++ [byteOf values.length] ++ values.flatMap bytesOfInt })))

/-- RELEASE_TRACE by the state of the slot (R148). -/
def Obligations.ReleaseTraceBySlotState : Prop :=
  ∀ (s : State) (tag slot : Byte), s.lineFree →
    (slot.toNat = 0 ∨ 8 < slot.toNat →
      exec (.releaseTrace tag slot) s = .next (s.replied tag 0x94#8 (refuse .badValue))) ∧
    (∀ t : SlotId, slot.toNat = t.val + 1 →
      exec (.releaseTrace tag slot) s =
        .next (match s.slot t with
          | .held h _ =>
            State.replied { s with slots := s.slots.set t .free } tag 0x94#8
              (taken ([0, 1] ++ bytesOf16 h.number ++ [byteOf (h.port.val + 1)]))
          | .free => s.replied tag 0x94#8 (taken [0, 0, 0, 0, 0])
          | .filling _ _ => s.replied tag 0x94#8 (refuse .slotBusy)))

/-! ### The link state machine -/

/-- Energy arrivals by link state (R4, R5, R6, R23, R29, R36): ENERGY always follows; LISTEN goes on to OFFER or TRAIN
with energy, OFFER, EXTEND and TRAIN fall back to LISTEN without it, STALLED only starts or stops its absence timer. -/
def Obligations.EnergyArrivals : Prop :=
  ∀ (s : State) (p : PortId) (q : Port), s.resetLow = false → q = s.port p →
    (q.stateSound → q.exchangeSound →
      exec (.energyPresent p) s =
        .next (s.becomes p
          (match q.state with
           | .listen => Port.listening p (s.profile p) { q with energy := true }
           | .stalled => { q with energy := true, absence := false }
           | .disabled | .offer | .extend | .train | .up | .holdoff | .test => { q with energy := true }) [])) ∧
    exec (.energyAbsent p) s =
      .next (s.becomes p
        (match q.state with
         | .listen | .stalled => { q with energy := false, absence := true }
         | .offer | .extend | .train => Port.listening p (s.profile p) { q with energy := false }
         | .disabled | .up | .holdoff | .test => { q with energy := false }) [])

/-- What is discarded: partner words outside OFFER and EXTEND, training outcomes outside TRAIN, margin samples and signal
lost outside UP (R4), every arrival while RESET is low (R189), and the expiry of a timer that does not run (entry 5). -/
def Obligations.ArrivalsOutOfPlace : Prop :=
  ∀ (s : State) (p : PortId) (w : PartnerWord) (m x : Byte) (map : PairMap) (polarity : BitVec 4),
    (s.resetLow = true →
      ∀ c ∈ [Instr.energyPresent p, .energyAbsent p, .partnerWord p w, .trainingConverged p m map polarity,
             .trainingFailed p, .marginSample p x, .signalLost p], exec c s = .next s) ∧
    (s.passDue = false →
      ((s.port p).state ≠ .offer → (s.port p).state ≠ .extend → exec (.partnerWord p w) s = .next s) ∧
      ((s.port p).state ≠ .train →
        exec (.trainingConverged p m map polarity) s = .next s ∧ exec (.trainingFailed p) s = .next s) ∧
      ((s.port p).state ≠ .up → exec (.marginSample p x) s = .next s ∧ exec (.signalLost p) s = .next s) ∧
      ((s.port p).exchangeTimer = none → exec (.exchangeTimerExpiry p) s = .next s) ∧
      ((s.port p).trainTimer = none → exec (.trainingTimerExpiry p) s = .next s) ∧
      ((s.port p).holdoff = none → exec (.holdoffWaitEnd p) s = .next s) ∧
      ((s.port p).absence = false → exec (.energyAbsenceTimerExpiry p) s = .next s))

/-- The acceptance filter in OFFER and EXTEND (R7): a new word becomes the candidate, the same word counts, the third
arrival is accepted and handed to the rule of its kind, later ones change nothing. -/
def Obligations.PartnerWordFilter : Prop :=
  ∀ (s : State) (p : PortId) (w : PartnerWord), s.resetLow = false →
    (s.port p).state = .offer ∨ (s.port p).state = .extend →
    ((∀ n, (s.port p).candidate ≠ some (w, n)) →
      exec (.partnerWord p w) s = .next (s.becomes p { s.port p with candidate := some (w, 1) } [])) ∧
    ((s.port p).candidate = some (w, 1) →
      exec (.partnerWord p w) s = .next (s.becomes p { s.port p with candidate := some (w, 2) } [])) ∧
    ((s.port p).candidate = some (w, 3) → s.passDue = false → exec (.partnerWord p w) s = .next s) ∧
    (∀ q m, s.accepts p w q → m = Port.accept p (s.profile p) w q →
      exec (.partnerWord p w) s = .next (s.becomes p m.port m.events))

/-- Words accepted in OFFER (R9, R10): an offer is stored and HEARD set, one that has heard us completes the phase, and
so does a page once we have heard; completion leads to EXTEND if either side has pages, else to resolution. -/
def Obligations.OfferPhase : Prop :=
  ∀ (s : State) (p : PortId) (own : OfferWord) (q : Port), q.state = .offer → q.ownOffer = some own →
    (∀ (o : OfferWord) (h : Port), s.accepts p (.offer o) q →
      h = { q with partnerOffer := some o, ownOffer := some { own with heard := true } } →
      (o.heard = false → exec (.partnerWord p (.offer o)) s = .next (s.becomes p h [])) ∧
      (o.heard = true → own.hasPages = true ∨ o.hasPages = true →
        exec (.partnerWord p (.offer o)) s = .next (s.becomes p h.extending [])) ∧
      (o.heard = true → own.hasPages = false → o.hasPages = false →
        exec (.partnerWord p (.offer o)) s =
          .next (s.becomes p (Port.resolve p (s.profile p) h).port (Port.resolve p (s.profile p) h).events))) ∧
    (∀ g : PageWord, s.accepts p (.page g) q →
      (own.heard = false → exec (.partnerWord p (.page g)) s = .next (s.becomes p q [])) ∧
      (∀ o, own.heard = true → q.partnerOffer = some o → own.hasPages = true ∨ o.hasPages = true →
        ∀ m, m = Port.acceptPage p (s.profile p) g q.extending →
          exec (.partnerWord p (.page g)) s = .next (s.becomes p m.port m.events)) ∧
      (∀ o, own.heard = true → q.partnerOffer = some o → own.hasPages = false → o.hasPages = false →
        exec (.partnerWord p (.page g)) s =
          .next (s.becomes p (Port.resolve p (s.profile p) q).port (Port.resolve p (s.profile p) q).events)))

/-- Words accepted in EXTEND (R14 to R17): a page acknowledges the page in sending and is logged if new, and the exchange
resolves when both sides are done; an offer word starts the exchange again. -/
def Obligations.ExtensionPages : Prop :=
  ∀ (p : PortId) (r : Profile) (q : Port), q.state = .extend →
    (∀ g : PageWord,
      (((q.afterAck g).afterPage g).localDone = true → ((q.afterAck g).afterPage g).partnerDone = true →
        Port.acceptPage p r g q = Port.resolve p r ((q.afterAck g).afterPage g)) ∧
      (((q.afterAck g).afterPage g).localDone = false ∨ ((q.afterAck g).afterPage g).partnerDone = false →
        Port.acceptPage p r g q = quiet ((q.afterAck g).afterPage g))) ∧
    (∀ (s : State) (g : PageWord), s.accepts p (.page g) q → r = s.profile p →
      exec (.partnerWord p (.page g)) s =
        .next (s.becomes p (Port.acceptPage p r g q).port (Port.acceptPage p r g q).events)) ∧
    (∀ (s : State) (o : OfferWord), s.accepts p (.offer o) q → r = s.profile p → q.stateSound →
      exec (.partnerWord p (.offer o)) s =
        .next (s.becomes p (Port.offering p (effectiveSet r q.removed) r.roleClass r.exchangeMs q) []))

/-- Resolution (R19, R20, R21): the highest common speed, the role by class and then by seed, a stall where there is no
common speed, a conflict or a seventh tie, and a new OFFER at an earlier tie. The training timer that entry to TRAIN loads
has the fixed length of its speed (R26). -/
def Obligations.ResolutionOfSpeedAndRole : Prop :=
  [Speed.s100, .s1g, .s2g5, .s5g, .s10g].map trainMs = [250, 750, 2000, 2000, 2500] ∧
  ∀ (p : PortId) (r : Profile) (q : Port) (o w : OfferWord), q.ownOffer = some o → q.partnerOffer = some w →
    (o.speeds &&& w.speeds = 0 →
      Port.resolve p r q = { port := q.stalling .noCommonSpeed, events := [.stall .noCommonSpeed] }) ∧
    (∀ c : Speed, hasSpeed (o.speeds &&& w.speeds) c = true →
      (∀ c' : Speed, c.idx < c'.idx → hasSpeed (o.speeds &&& w.speeds) c' = false) →
      (roleForces o.roleClass = true → w.roleClass = o.roleClass →
        Port.resolve p r q = { port := q.stalling .roleConflict, events := [.stall .roleConflict] }) ∧
      (∀ x : Role,
        (roleForces o.roleClass = true ∧ w.roleClass ≠ o.roleClass ∧ x = roleAsked o.roleClass) ∨
        (roleForces o.roleClass = false ∧ roleForces w.roleClass = true ∧ x = otherRole (roleAsked w.roleClass)) ∨
        (roleForces o.roleClass = false ∧ roleForces w.roleClass = false ∧ w.roleClass ≠ o.roleClass ∧
          x = roleAsked o.roleClass) ∨
        (roleForces o.roleClass = false ∧ w.roleClass = o.roleClass ∧
          (w.seed.toNat < o.seed.toNat ∧ x = .lead ∨ o.seed.toNat < w.seed.toNat ∧ x = .follow)) →
        Port.resolve p r q = quiet (Port.trainingAt c x { q with tie := 0 })) ∧
      (roleForces o.roleClass = false → w.roleClass = o.roleClass → w.seed = o.seed →
        (6 ≤ q.tie →
          Port.resolve p r q = { port := Port.stalling .roleTie { q with tie := q.tie + 1 }, events := [.stall .roleTie] }) ∧
        (q.tie < 6 → q.stateSound → q.state = .offer ∨ q.state = .extend →
          Port.resolve p r q =
            quiet (Port.offering p (effectiveSet r q.removed) r.roleClass r.exchangeMs { q with tie := q.tie + 1 }))))

/-- Training in TRAIN at speed c (R27, R28, R30, R31, R33, R35): converged enters UP; failed or out of time is a training
failure, whose counters rise; a class of the effective set whose count has reached downshift_after is removed, unless it
is the lowest, when the port stalls. -/
def Obligations.TrainingOutcomes : Prop :=
  (∀ (s : State) (p : PortId) (q : Port) (c : Speed) (x : Role), q = s.port p → q.state = .train →
    q.training = some (c, x) →
    (∀ (m : Byte) (map : PairMap) (polarity : BitVec 4), s.resetLow = false →
      exec (.trainingConverged p m map polarity) s =
        .next (s.becomes p
          { q.bareIn .up with
            link := some { speed := c, role := x, margin := m.toNat }, pairMap := map, polarity := polarity,
            failCounts := q.failCounts.set c 0,
            counters := { q.counters with linkUps := bump 65535 q.counters.linkUps } } [.linkUp])) ∧
    (s.resetLow = false →
      exec (.trainingFailed p) s =
        .next (s.becomes p (q.trainingFailure (s.profile p) c).port (q.trainingFailure (s.profile p) c).events)) ∧
    (q.trainTimer ≠ none →
      exec (.trainingTimerExpiry p) s =
        .next (s.becomes p (q.trainingFailure (s.profile p) c).port (q.trainingFailure (s.profile p) c).events))) ∧
  (∀ (r : Profile) (c : Speed) (q f : Port) (n : Nat) (eff : SpeedSet),
    n = bump 255 (q.failCounts.get c) → eff = r.allowed &&& ~~~q.removed →
    f = { q with failCounts := q.failCounts.set c n,
                 counters := { q.counters with trainFailures := bump 65535 q.counters.trainFailures } } →
    (r.linkMode = .forced ∨ r.downshiftAfter = 0 ∨ n < r.downshiftAfter ∨ hasSpeed eff c = false →
      Port.trainingFailure r c q = { port := f.holding r.holdoffMs, events := [.trainFail] }) ∧
    (r.linkMode = .exchange → r.downshiftAfter ≠ 0 → r.downshiftAfter ≤ n → hasSpeed eff c = true →
      ((∃ c' : Speed, c'.idx < c.idx ∧ hasSpeed eff c' = true) →
        Port.trainingFailure r c q =
          { port := Port.holding r.holdoffMs
              { f with removed := f.removed ||| (1#5 <<< c.idx),
                       counters := { f.counters with downshifts := bump 65535 f.counters.downshifts } },
            events := [.trainFail, .downshift] }) ∧
      ((∀ c' : Speed, c'.idx < c.idx → hasSpeed eff c' = false) →
        Port.trainingFailure r c q =
          { port := f.stalling .trainingExhausted, events := [.trainFail, .stall .trainingExhausted] })))

/-- The live link (R39, R40, R41, R42, R43): a margin sample moves the smoothed margin and the alarm, then may drop the
link as a training failure at its speed; signal lost drops it into HOLDOFF. -/
def Obligations.LiveLinkArrivals : Prop :=
  ∀ (s : State) (p : PortId) (q : Port) (r : Profile) (k : Link), s.resetLow = false → q = s.port p →
    r = s.profile p → q.state = .up → q.link = some k →
    (∀ (x : Byte) (m : Nat) (low : Bool) (q' : Port) (t : State),
      m = (match q.smoothed with
           | none => x.toNat
           | some m => (7 * m + x.toNat + 4) / 8) →
      (low = true ↔ if q.marginLow then m < r.marginAlarm + r.marginHyst else m < r.marginAlarm) →
      q' = { q with samples := bump 65535 q.samples, smoothed := some m, marginLow := low } →
      t = s.change p (fun _ => q') (if low = true ∧ q.marginLow = false then [.marginLow] else []) →
      (r.marginDrop = 0 ∨ q'.samples < 5 ∨ r.marginDrop ≤ m → exec (.marginSample p x) s = .next t.settle) ∧
      (r.marginDrop ≠ 0 → 5 ≤ q'.samples → m < r.marginDrop →
        ∀ f, f = Port.trainingFailure r k.speed ((t.port p).dropped .margin) →
          exec (.marginSample p x) s = .next (t.becomes p f.port (.linkDown .margin :: f.events)))) ∧
    exec (.signalLost p) s = .next (s.becomes p ((q.dropped .signalLost).holding r.holdoffMs) [.linkDown .signalLost])

/-- The port timers where they run (R22, R33, R34, R38): the exchange timer and the holdoff wait end in HOLDOFF and
LISTEN; the energy-absence timer clears the memory and takes a STALLED port to LISTEN. -/
def Obligations.PortTimers : Prop :=
  ∀ (s : State) (p : PortId) (q : Port) (r : Profile), q = s.port p → r = s.profile p →
    (q.exchangeTimer ≠ none → q.state = .offer ∨ q.state = .extend →
      exec (.exchangeTimerExpiry p) s =
        .next (s.becomes p
          (Port.holding r.holdoffMs
            { q with counters := { q.counters with exchangeTimeouts := bump 65535 q.counters.exchangeTimeouts } })
          [.exchangeTimeout])) ∧
    (q.holdoff ≠ none → q.state = .holdoff →
      exec (.holdoffWaitEnd p) s = .next (s.becomes p (Port.listening p r q) [])) ∧
    (q.absence = true → q.state = .listen →
      exec (.energyAbsenceTimerExpiry p) s = .next (s.becomes p { q.forgetful with absence := false } [])) ∧
    (q.absence = true → q.state = .stalled →
      exec (.energyAbsenceTimerExpiry p) s = .next (s.becomes p (Port.listening p r q.forgetful) []))

/-- A flagged event and the offer of the condition word (R51, R52, R54, R55, R58, R60): flag, report if enabled, submit if
it is a trigger; then outside TEST a changed word is compared, and an ARMED watch that no longer matches trips with a
DEPARTURE. The word's nine fields follow from the port record (R45), and the mask says which of them are compared (R50,
R195). -/
def Obligations.EventsAndTheWatch : Prop :=
  (∀ q : Port,
    (q.word.link = true ↔ q.state = .up) ∧
    (q.state ≠ .up → q.word.speed = none ∧ q.word.role = none ∧ q.word.marginLow = false) ∧
    (∀ k, q.state = .up → q.link = some k →
      q.word.speed = some k.speed ∧ q.word.role = some k.role ∧ q.word.marginLow = q.marginLow) ∧
    q.word.pairMap = q.pairMap ∧ q.word.polarity = q.polarity ∧ q.word.energy = q.energy ∧
    (q.word.stalled = true ↔ q.state = .stalled) ∧ (q.word.testing = true ↔ q.state = .test)) ∧
  (∀ (mask : FieldSet) (x w : CondWord),
    matchesWord mask x w = true ↔
      (mask.getLsbD 0 = true → w.link = x.link) ∧ (mask.getLsbD 1 = true → w.speed = x.speed) ∧
      (mask.getLsbD 2 = true → w.role = x.role) ∧ (mask.getLsbD 3 = true → w.pairMap = x.pairMap) ∧
      (mask.getLsbD 4 = true → w.polarity = x.polarity) ∧ (mask.getLsbD 5 = true → w.energy = x.energy) ∧
      (mask.getLsbD 6 = true → w.marginLow = x.marginLow) ∧ (mask.getLsbD 7 = true → w.stalled = x.stalled) ∧
      (mask.getLsbD 8 = true → w.testing = x.testing)) ∧
  ∀ (s : State) (p : PortId),
    (∀ (ev : FlagEvent) (t : State) (triggers : KindSet),
      triggers = (s.profile p).autoTriggers →
      t = { s with
            ports := s.ports.set p { s.port p with flags := (s.port p).flags ||| (1#9 <<< ev.kind.idx) },
            reports := if hasKind (s.profile p).reportEnables ev.kind = true
                       then addEvent p ev (s.port p).word s.reports else s.reports } →
      s.flagEvent p ev =
        if hasKind triggers ev.kind = true ∧
            (ev.kind = .stall ∨ ev.kind = .trainFail ∨ ev.kind = .departure ∨ ev = .linkDown .signalLost ∨
              ev = .linkDown .margin)
        then t.submit p (some ev.kind) else t) ∧
    (∀ (old : CondWord) (q : Port) (at' : WatchState → State), q = s.port p →
      at' = (fun x => s.setPort p { q with watch := { q.watch with state := x } }) →
      (q.state = .test ∨ q.word = old → s.offerWord p old = s) ∧
      (q.state ≠ .test → q.word ≠ old →
        (matchesWord q.watch.mask q.watch.expectation q.word = true → s.offerWord p old = at' .armed) ∧
        (matchesWord q.watch.mask q.watch.expectation q.word = false →
          (q.watch.state = .armed → s.offerWord p old = (at' .tripped).flagEvent p .departure) ∧
          (q.watch.state ≠ .armed → s.offerWord p old = s)))) ∧
    (∀ (q : Port) (evs : List FlagEvent),
      s.change p (fun _ => q) evs =
        (evs.foldl (fun t ev => t.flagEvent p ev) (s.setPort p q)).offerWord p (s.port p).word)

/-! ### Measurement -/

/-- The bus check starts the listen on pair A or ends the test as a bus fault (R92, R93, R102, R103); each is discarded
outside CONNECT (entry 12). A pair that is finished leads to the next pair's first attempt, and pair D to the end of the
test, PARTNER_ACTIVE just when all four are NOISY (R94, R103, R114). -/
def Obligations.BusChecksAndPairEnds : Prop :=
  ∀ (s : State) (e : EngineId) (x : Engine), x = s.engine e →
    ∀ start : Pair → Meas, start = (fun y =>
      { pair := y, run := .first, attempt := 1, waiting := false, baselines := none, spread := none, reps := 0,
        sums := sameQuad [] }) →
    (x.state = .connect →
      exec (.busCheckPass e) s =
        .next (s.setEngine e { x with state := .listen, meas := some (start .a), finished := [], buffer := sameQuad [] }) ∧
      exec (.busCheckFail e) s =
        .next (s.endTest e .busFault
          { a := { pair := .a, cls := .notTested, measured := none, echo := none, partner := none },
            b := { pair := .b, cls := .notTested, measured := none, echo := none, partner := none },
            c := { pair := .c, cls := .notTested, measured := none, echo := none, partner := none },
            d := { pair := .d, cls := .notTested, measured := none, echo := none, partner := none } })) ∧
    (x.state ≠ .connect → exec (.busCheckPass e) s = .next s ∧ exec (.busCheckFail e) s = .next s) ∧
    (∀ (y z : Pair) (r : PairRecord), r.pair = y → z.code = y.code + 1 →
      s.finishPair e r =
        s.setEngine e { x with state := .listen, meas := some (start z), finished := x.finished ++ [r] }) ∧
    (∀ (r : PairRecord) (q : Quad PairRecord) (outcome : TestOutcome), r.pair = .d →
      x.finished = [q.a, q.b, q.c] → (∀ y, (quadGet q y).pair = y) → q.d = r →
      (outcome = .partnerActive ∨ outcome = .complete) →
      (outcome = .partnerActive ↔ ∀ y, (quadGet q y).cls = .noisy) →
      s.finishPair e r = (s.setEngine e { x with finished := x.finished ++ [r] }).endTest e outcome q)

/-- A listen attempt (R104, R105, R106, R107): the floor of the mean of each pair's 16 samples and the spread of the
current pair's; a spread within noise_limit enters PULSE with fresh sums, another waits, the fourth such is NOISY. That an
attempt's end during the listen wait changes nothing is the model's choice (entry 12). -/
def Obligations.ListenAttempts : Prop :=
  ∀ (s : State) (e : EngineId) (x : Engine) (j : Job) (m : Meas) (samples : Quad (List Sample)) (base : Quad Int)
      (spread : Nat) (reach : RunReach),
    x = s.engine e → x.state = .listen → x.job = some j → x.meas = some m → listenFits samples = true →
    (∀ y : Pair, 16 * quadGet base y ≤ ((quadGet samples y).map BitVec.toInt).sum ∧
      ((quadGet samples y).map BitVec.toInt).sum < 16 * quadGet base y + 16) →
    (∃ hi ∈ quadGet samples m.pair, ∃ lo ∈ quadGet samples m.pair, (spread : Int) = hi.toInt - lo.toInt ∧
      ∀ v ∈ quadGet samples m.pair, lo.toInt ≤ v.toInt ∧ v.toInt ≤ hi.toInt) →
    reach = (match j.reach with
             | .short => .short
             | .medium | .auto => .medium
             | .long => .long) →
    (m.waiting = true →
      exec (.listenAttemptEnd e samples) s = .next s ∧
      exec (.listenWaitEnd e) s =
        .next (s.setEngine e { x with meas := some { m with waiting := false, attempt := m.attempt + 1 } })) ∧
    (m.waiting = false → spread ≤ j.snap.noiseLimit →
      exec (.listenAttemptEnd e samples) s =
        .next (s.setEngine e
          { x with
            state := .pulse,
            meas := some { m with baselines := some base, spread := some spread, run := .first, reps := 0,
                                  sums := sameQuad (List.replicate
                                    (match reach with
                                     | .short => 256
                                     | .medium => 640
                                     | .long => 1024) 0) } })) ∧
    (m.waiting = false → j.snap.noiseLimit < spread → m.attempt < 4 →
      exec (.listenAttemptEnd e samples) s =
        .next (s.setEngine e { x with meas := some { m with spread := some spread, waiting := true } })) ∧
    (m.waiting = false → j.snap.noiseLimit < spread → 4 ≤ m.attempt →
      exec (.listenAttemptEnd e samples) s =
        .next ((s.setEngine e { x with meas := some { m with spread := some spread } }).finishPair e
          { pair := m.pair, cls := .noisy, measured := some { reach, attempts := 4, spread }, echo := none,
            partner := none }))

/-- A launch adds its samples index by index, and after 2 to the averaging exponent launches the engine analyses (R108,
R109). In PULSE, and only there, the engine drives its port's current pair at each launch, with a pulse of the run
reach's width (R108). The analysis keeps the pulsed pair's list and pulses a NORMAL first AUTO run again at LONG, or finishes the pair
(R110, R111, R112, R113). The result of a run is the classification of its compensated lists past the blanking count of
its run reach (R107, R117, R130), whose pulse is 4, 8 or 16 ns wide. -/
def Obligations.LaunchesAndAnalysis : Prop :=
  (∀ (j : Job) (m : Meas) (reach : RunReach) (blank ns : Nat),
    reach = (match j.reach, m.run with
             | .short, _ => .short
             | .medium, _ | .auto, .first => .medium
             | .long, _ | .auto, .rerun => .long) →
    (reach = .short ∧ blank = 8 ∧ ns = 4 ∨ reach = .medium ∧ blank = 12 ∧ ns = 8 ∨
      reach = .long ∧ blank = 20 ∧ ns = 16) →
    runReach j.reach m.run = reach ∧ pulseNs reach = ns ∧
      runResult j m = classify j.snap blank m.pair (runLists j m)) ∧
  ∀ (s : State) (e : EngineId) (x : Engine) (j : Job) (m : Meas), x = s.engine e → x.job = some j → x.meas = some m →
    s.launching e =
      (if s.resetLow = false ∧ x.state = .pulse
       then some { port := j.port, pair := m.pair, ns := pulseNs (runReach j.reach m.run) } else none) ∧
    (∀ capture : Quad (List Sample), x.state = .pulse → captureFits capture = true →
      (∀ y, (quadGet m.sums y).length = (quadGet capture y).length) →
      ∃ sums : Quad (List Int),
        exec (.launchCaptured e capture) s =
          .next (s.setEngine e { x with state := if m.reps + 1 < 2 ^ j.avg then .pulse else .analyse,
                                        meas := some { m with reps := m.reps + 1, sums } }) ∧
        ∀ y, (quadGet sums y).length = (quadGet m.sums y).length ∧
          ∀ (i : Nat) (a : Int) (b : Sample), (quadGet m.sums y)[i]? = some a → (quadGet capture y)[i]? = some b →
            (quadGet sums y)[i]? = some (a + b.toInt)) ∧
    (∀ (res : RunResult) (buffer : Quad (List Int)), x.state = .analyse → res = runResult j m →
      (∀ y, quadGet buffer y = if y = m.pair then quadGet (runLists j m) y else quadGet x.buffer y) →
      (j.reach = .auto → m.run = .first → res.cls = .normal →
        exec (.analysisDone e) s =
          .next (s.setEngine e
            { x with state := .pulse, buffer,
                     meas := some { m with run := .rerun, reps := 0, sums := sameQuad (List.replicate 1024 0) } })) ∧
      (∀ n, j.reach ≠ .auto ∨ m.run = .rerun ∨ res.cls ≠ .normal → m.spread = some n →
        exec (.analysisDone e) s =
          .next ((s.setEngine e { x with buffer, meas := some { m with sums := sameQuad [] } }).finishPair e
            { pair := m.pair, cls := res.cls, echo := res.echo, partner := res.partner,
              measured := some { reach := runReach j.reach m.run, attempts := m.attempt, spread := n } })))

/-- The arithmetic of steps 1 to 3, index by index (R118, R119, R120, R121, R122): the floor of the mean, the baseline
taken off, the loss factor, truncation and saturation. -/
def Obligations.CompensatedValues : Prop :=
  ∀ (j : Job) (m : Meas) (base : Quad Int), m.baselines = some base → ∀ y : Pair,
    (quadGet (runLists j m) y).length = (quadGet m.sums y).length ∧
    ∀ (i : Nat) (sum a u : Int) (f : Nat), (quadGet m.sums y)[i]? = some sum →
      (2 ^ j.avg * a ≤ sum ∧ sum < 2 ^ j.avg * (a + 1)) →
      (16 * (f - 1024) ≤ j.snap.lossSlope * i ∧ j.snap.lossSlope * i < 16 * (f - 1024) + 16 ∧ 1024 ≤ f) →
      (0 ≤ (a - quadGet base y) * f ∧ 1024 * u ≤ (a - quadGet base y) * f ∧ (a - quadGet base y) * f < 1024 * u + 1024 ∨
        (a - quadGet base y) * f < 0 ∧ (a - quadGet base y) * f ≤ 1024 * u ∧ 1024 * u < (a - quadGet base y) * f + 1024) →
      (quadGet (runLists j m) y)[i]? = some (max (-32768) (min u 32767))

/-- The class, i0, peak, distance and partner of a run (R123 to R131, R133): the cross-pair check decides first, then the
first detecting index, its peak scan and the hard level; NORMAL otherwise. -/
def Obligations.EchoClasses : Prop :=
  ∀ (snap : Snapshot) (blank : Nat) (x : Pair) (c : Quad (List Int)) (distance : Nat → Nat),
    distance = (fun i0 => if i0 ≤ 6 then 0 else ((i0 - 6) * snap.velocity * 2998 + 50000) / 100000) →
    ((∃ y, y ≠ x ∧ ∃ i v, blank ≤ i ∧ (quadGet c y)[i]? = some v ∧ snap.crossLevel ≤ v.natAbs) →
      ∃ (y : Pair) (i0 i : Nat) (v u : Int),
        classify snap blank x c =
          { cls := .crossShort, echo := some { i0, peak := v, distance := distance i0 }, partner := some y } ∧
        y ≠ x ∧ blank ≤ i ∧ (quadGet c y)[i]? = some v ∧ snap.crossLevel ≤ v.natAbs ∧
        (∀ (k : Nat) (a : Int), blank ≤ k → (quadGet c y)[k]? = some a →
          a.natAbs < v.natAbs ∨ a.natAbs = v.natAbs ∧ i ≤ k) ∧
        (∀ (z : Pair) (k : Nat) (a : Int), z ≠ x → z ≠ y → blank ≤ k → (quadGet c z)[k]? = some a →
          a.natAbs < v.natAbs ∨ a.natAbs = v.natAbs ∧ y.code ≤ z.code) ∧
        (quadGet c y)[i0]? = some u ∧ snap.crossLevel ≤ u.natAbs ∧
        (∀ (k : Nat) (a : Int), k < i0 → (quadGet c y)[k]? = some a → a.natAbs < snap.crossLevel)) ∧
    ((∀ (y : Pair) (i : Nat) (v : Int), y ≠ x → blank ≤ i → (quadGet c y)[i]? = some v → v.natAbs < snap.crossLevel) →
      ((∀ (i : Nat) (v : Int), blank ≤ i → (quadGet c x)[i]? = some v → v.natAbs < snap.detectLevel) →
        classify snap blank x c = { cls := .normal, echo := none, partner := none }) ∧
      (∀ (i0 : Nat) (u : Int), blank ≤ i0 → (quadGet c x)[i0]? = some u → snap.detectLevel ≤ u.natAbs →
        (∀ (k : Nat) (a : Int), blank ≤ k → k < i0 → (quadGet c x)[k]? = some a → a.natAbs < snap.detectLevel) →
        ∃ (p : Nat) (v : Int), i0 ≤ p ∧ (quadGet c x)[p]? = some v ∧
          (∀ (k : Nat) (a b : Int), i0 ≤ k → k < p → (quadGet c x)[k]? = some a → (quadGet c x)[k + 1]? = some b →
            a.natAbs ≤ b.natAbs ∧ 0 < b * u) ∧
          (∀ b, (quadGet c x)[p + 1]? = some b → b.natAbs < v.natAbs ∨ ¬0 < b * u) ∧
          classify snap blank x c =
            { cls := if (snap.hardLevel : Int) ≤ v then .opened
                     else if v ≤ -(snap.hardLevel : Int) then .short
                     else if 0 < v then .highImpedance
                     else .lowImpedance,
              echo := some { i0, peak := v, distance := distance i0 }, partner := none }))

/-- Every distance of a run over a window of at most 1024 samples at a velocity of at most 900 is at most 27441, and every
peak of an OPEN or SHORT reaches the snapshot's hard level (R132). -/
def Obligations.DistanceAndPeakBounds : Prop :=
  (∀ (j : Job) (m : Meas) (g : Echo), j.snap.velocity ≤ 900 → (∀ y, (quadGet m.sums y).length ≤ 1024) →
    (runResult j m).echo = some g →
      g.i0 ≤ 1023 ∧ g.distance ≤ 27441 ∧
      ((runResult j m).cls = .opened ∨ (runResult j m).cls = .short → j.snap.hardLevel ≤ g.peak.natAbs)) ∧
  (∀ (j : Job) (m : Meas), (runResult j m).cls = .opened ∨ (runResult j m).cls = .short →
    ∃ g, (runResult j m).echo = some g) ∧
  distanceOf 900 1023 = 27441

/-- Release end (R96, R97, R98, R83) and RESTORE_ENGINE (R99): the bank idles, the port returns, the engine is IDLE or
withdrawn with its report and the stranded records, and a grant pass runs. The model's choices: a release end outside
RELEASE changes nothing (entry 12), and RESTORE_ENGINE's reply shows the engine after the pass (entry 9). -/
def Obligations.EnginesLeaveAndReturn : Prop :=
  (∀ (s : State) (e : EngineId) (x : Engine), x = s.engine e →
    (x.state ≠ .release → exec (.releaseEnd e) s = .next s) ∧
    (∀ (j : Job) (q f : Port) (t : State), x.state = .release → x.job = some j → q = s.port j.port →
      f = (if q.enabled = false then q.bareIn .disabled
           else if q.returnToStall = true
           then { q.bareIn .stalled with stallCause := q.stallCause, absence := !q.energy }
           else q.holding (s.profile j.port).holdoffMs) →
      t = State.change { s with banks := s.banks.set (bankOf j.port) none } j.port (fun _ => f) [] →
      (x.faultPending = false →
        exec (.releaseEnd e) s =
          .next (State.grantPass
            { t with
              passDue := false,
              engines := t.engines.set e
                { state := .idle, job := none, meas := none, finished := [], buffer := sameQuad [],
                  faultPending := false } })) ∧
      (∀ (u : State) (lost : List TestRecord), x.faultPending = true →
        u = { t with
              reports := addFault e t.reports,
              engines := t.engines.set e
                { state := .outOfService, job := none, meas := none, finished := [], buffer := sameQuad [],
                  faultPending := false } } →
        lost = u.queue.filter (fun r => decide (r.state = .pending ∧
          ∀ d, reaches d (bankOf r.port) = true → (u.engine d).state = .outOfService)) →
        exec (.releaseEnd e) s =
          .next (State.grantPass
            { lost.foldl (fun v r => v.completeRecord r .noEngine noPairs) u with passDue := false })))) ∧
  (∀ (s : State) (tag engine : Byte), s.lineFree →
    (engine.toNat = 0 ∨ 4 < engine.toNat →
      exec (.restoreEngine tag engine) s = .next (s.replied tag 0x91#8 (refuse .badValue))) ∧
    (∀ (e : EngineId) (t : State), engine.toNat = e.val + 1 →
      t = (if (s.engine e).state = .outOfService
           then (s.setEngine e { s.engine e with state := .idle }).grantPass
           else s) →
      exec (.restoreEngine tag engine) s =
        .next (t.replied tag 0x91#8 (taken [byteOf (t.engine e).state.code]))))

/-! ### Starts -/

/-- Power-on, release of RESET and RESTART COLD give the same cold-start part but for the cause (R24, R45, R48, R59, R62,
R80, R100, R136, R150, R164, R175, R188, R189); only the ports' sources of seeds and the free choices of R162 go on (entries 3 and 25). While RESET is low the
part is in that state, without its RESTARTED entry (entry 7). The model's choices besides: POWER_ON leaves RESET high and
RESET_RELEASE starts the part also where RESET was high (entry 8), and no page in sending with a next parity of 0 is the
cold value of these two (entry 22). -/
def Obligations.ColdStarts : Prop :=
  ∀ (s : State) (cold : RestartCause → State),
    cold = (fun c =>
      { resetLow := false, lastCause := c, receiver := .hunt, inbox := [], overflow := none, sender := .idle,
        ports := Vector.ofFn (fun p =>
          { state := .disabled, enabled := false, candidate := none, ownOffer := none, partnerOffer := none, tie := 0,
            pages := [], log := [], truncated := false, lastParity := none, ownAck := none, localDone := false,
            partnerDone := false, sending := none, nextParity := false, exchangeTimer := none, training := none,
            trainTimer := none, link := none, smoothed := none, samples := 0, marginLow := false,
            pairMap := .straight, polarity := 0, energy := false,
            failCounts := { s100 := 0, s1g := 0, s2g5 := 0, s5g := 0, s10g := 0 }, removed := 0, holdoff := none,
            absence := false, stallCause := none, returnToStall := false, lastDown := none,
            counters := { linkUps := 0, linkDrops := 0, trainFailures := 0, exchangeTimeouts := 0, downshifts := 0 },
            flags := 0,
            watch := { mask := 0, state := .armed,
                       expectation := { link := false, speed := none, role := none, pairMap := .straight, polarity := 0,
                                        energy := false, marginLow := false, stalled := false, testing := false } },
            draws := (s.port p).draws }),
        profiles := Vector.replicate 48 defaultProfile, queue := [], nextNumber := 1,
        recheck := Vector.replicate 48 none, banks := Vector.replicate 6 none,
        engines := Vector.replicate 4 { state := .idle, job := none, meas := none, finished := [],
                                        buffer := sameQuad [], faultPending := false },
        results := Vector.replicate 48 none, slots := Vector.replicate 8 .free,
        reports := [.device { restart := some c, faults := 0 }], passDue := false, fetch := none, choices := s.choices,
        pending := s.pending }) →
    exec .powerOn s = .next (cold .powerOn) ∧ exec .resetRelease s = .next (cold .resetLine) ∧
    (∀ x, s.sender = .sending x (some .cold) → exec .replySent s = .next (cold .coldRequest)) ∧
    exec .resetAssert s = .next { cold s.lastCause with resetLow := true, reports := [] } ∧
    (Profile.raw defaultProfile).bytes =
      [0, 0x1F, 2, 3, 2, 1, 0xF4, 5, 0xDC, 60, 10, 0, 2, 0x94, 40, 0, 160, 4, 0x4C, 1, 0xF4, 0, 48, 1, 0x93, 0, 0x10, 4,
       3, 3, 0, 1, 0, 0, 1, 1]

/-- RESTART (R188) and the warm restart (R25, R49, R59, R62, R71, R81, R101, R150, R165, R189): after its reply, running
tests are aborted, PE1 first; then queue, reports, traces, flags and line are emptied, no engine has a claimed slot, and
every port moves as its link state says. -/
def Obligations.WarmRestart : Prop :=
  ∀ (s : State),
    (∀ tag : Byte, s.lineFree →
      exec (.restart tag 0) s =
        .next { s with sender := .sending { tag, kind := 0x82#8, status := .ok, body := [0] } (some .cold) } ∧
      exec (.restart tag 1) s =
        .next { s with sender := .sending { tag, kind := 0x82#8, status := .ok, body := [1] } (some .warm) } ∧
      ∀ mode : Byte, 2 ≤ mode.toNat →
        exec (.restart tag mode) s = .next (s.replied tag 0x82#8 (refuse .badValue))) ∧
    (∀ (x : Reply) (a : State) (f : PortId → Port), s.sender = .sending x (some .warm) →
      a = (((s.abort 0).abort 1).abort 2).abort 3 →
      (∀ p, f p =
        (match (a.port p).state with
         | .listen | .offer | .extend | .train | .holdoff => (a.port p).holding (a.profile p).holdoffMs
         | .stalled => { a.port p with absence := !(a.port p).energy }
         | .test => { a.port p with returnToStall := false }
         | .up | .disabled => a.port p)) →
      exec .replySent s =
        .next { a with
                queue := [], slots := Vector.replicate 8 .free,
                engines := Vector.ofFn (fun e =>
                  { a.engine e with job := (a.engine e).job.map (fun j => { j with slot := none }) }),
                reports := [.device { restart := some .warmRequest, faults := 0 }], lastCause := .warmRequest,
                receiver := .hunt, inbox := [], overflow := none, sender := .idle,
                recheck := Vector.ofFn (fun p =>
                  if a.recheckOf p = none ∨ (a.profile p).recheckS = 0 then none else some (a.profile p).recheckS),
                ports := Vector.ofFn (fun p =>
                  { f p with
                    flags := 0,
                    watch := { (f p).watch with
                      state := if (f p).state ≠ .test ∧
                                  matchesWord (f p).watch.mask (f p).watch.expectation (f p).word = true
                               then .armed else .unarmed } }) })

/-! ### Invariants and the whole part -/

/-- Every step keeps the management line's invariant: no more than four frames, an overflow reply only behind a full
inbox, nothing waiting behind an IDLE sender, the line at rest while RESET is low (R180, R182, R183, R189). -/
def Obligations.StepKeepsTheLine : Prop :=
  ∀ s t : State, s.lineSound → step s = .next t → t.lineSound

/-- Every step keeps profiles within their ranges, allowed sets above what is removed, and every port record sound (R1,
R5, R8, R13, R30, R46, R166). -/
def Obligations.StepKeepsThePorts : Prop :=
  ∀ s t : State, s.profilesSound → s.setsSound → s.portsSound → step s = .next t →
    t.profilesSound ∧ t.setsSound ∧ t.portsSound

/-- Every step keeps one record per port, unique numbers and fields in range, one entry per port and one for the device,
every hold on a record of its port still in the queue (R63, R64, R151, R157, R160), and what a FETCH_REPORTS has taken
before its own step for that very command, which the next step answers (R161, R162). -/
def Obligations.StepKeepsQueueAndReports : Prop :=
  ∀ s t : State, s.profilesSound → s.queueSound → s.recordsInRange → s.reportsSound → s.holdsSound → s.fetchSound →
    step s = .next t →
    t.queueSound ∧ t.recordsInRange ∧ t.reportsSound ∧ t.holdsSound ∧ t.fetchSound ∧
      (s.fetch ≠ none → t.fetch = none)

/-- Every step keeps engines, banks, ports in TEST, RUNNING records and FILLING slots in agreement: a bank or an engine
serves at most one test, and a port is in TEST exactly while an engine is connected to it (R83, R87, R88, R142). -/
def Obligations.StepKeepsTheTests : Prop :=
  ∀ s t : State, s.queueSound → s.testsSound → step s = .next t → t.testsSound

/-- Every step leaves the arbiter settled: no grant pass is due and no PENDING record could be granted (R84). -/
def Obligations.StepSettlesTheArbiter : Prop :=
  ∀ s t : State, s.settled → step s = .next t → t.settled

/-- The part right after reset meets every invariant. -/
def Obligations.ResetMeetsTheInvariants : Prop :=
  State.reset.lineSound ∧ State.reset.profilesSound ∧ State.reset.setsSound ∧ State.reset.portsSound ∧
    State.reset.queueSound ∧ State.reset.recordsInRange ∧ State.reset.reportsSound ∧ State.reset.holdsSound ∧
    State.reset.fetchSound ∧ State.reset.testsSound ∧ State.reset.settled

/-- Only TRAINING_CONVERGED at a port in TRAIN brings it UP, and then link_ups rises and LINK_UP is flagged (R28, R55);
and whatever takes a port from UP in one command but a cold start counts a link drop, keeps a cause and flags LINK_DOWN
(R44, R55), where engines, banks and ports agree about every test. -/
def Obligations.LinkChangesAreCounted : Prop :=
  ∀ (s t : State) (i : Instr) (p : PortId), s.testsSound → exec i s = .next t →
    ((s.port p).state ≠ .up → (t.port p).state = .up →
      (∃ m map polarity, i = .trainingConverged p m map polarity) ∧ (s.port p).state = .train ∧
      (t.port p).counters.linkUps = bump 65535 (s.port p).counters.linkUps ∧ hasKind (t.port p).flags .linkUp = true) ∧
    ((s.port p).state = .up → (t.port p).state ≠ .up →
      i ≠ .powerOn → i ≠ .resetAssert → i ≠ .resetRelease → (∀ x, s.sender ≠ .sending x (some .cold)) →
      (t.port p).counters.linkDrops = bump 65535 (s.port p).counters.linkDrops ∧ (t.port p).lastDown ≠ none ∧
      hasKind (t.port p).flags .linkDown = true)

/-- What happens on one port's lane or to its timers leaves every other port alone: its record, its profile, its recheck
timer, its result, its test record and its report entry (section 1: the exchanges of different ports share no state), in a
settled part, but for a FETCH_REPORTS that comes together with it and takes the entry (R162). -/
def Obligations.OtherPortsAreLeftAlone : Prop :=
  ∀ (s t : State) (p p' : PortId) (i : Instr), s.settled → s.queueSound → p' ≠ p → exec i s = .next t →
    (i = .energyPresent p ∨ i = .energyAbsent p ∨ (∃ w, i = .partnerWord p w) ∨
      (∃ m map polarity, i = .trainingConverged p m map polarity) ∨ i = .trainingFailed p ∨
      (∃ x, i = .marginSample p x) ∨ i = .signalLost p ∨ i = .exchangeTimerExpiry p ∨ i = .trainingTimerExpiry p ∨
      i = .holdoffWaitEnd p ∨ i = .energyAbsenceTimerExpiry p ∨ i = .recheckTimerExpiry p) →
    t.port p' = s.port p' ∧ t.profile p' = s.profile p' ∧ t.recheckOf p' = s.recheckOf p' ∧
      t.result p' = s.result p' ∧ t.recordOf p' = s.recordOf p' ∧
      (s.fetchAtHand = false ∨ s.fetch ≠ none → entryOf p' t.reports = entryOf p' s.reports)
end

