-- ==== Sys2Proof/Laws/State.lean ====
section
/-! SUPPORT. What each named write of the state leaves: one lemma per field, and per view. -/

namespace Sys2Proof.Machine.State

/-! ### setPort -/

@[simp] theorem setPort_resetLow (s : State) (p : PortId) (q : Port) : (s.setPort p q).resetLow = s.resetLow := rfl
@[simp] theorem setPort_lastCause (s : State) (p : PortId) (q : Port) : (s.setPort p q).lastCause = s.lastCause := rfl
@[simp] theorem setPort_receiver (s : State) (p : PortId) (q : Port) : (s.setPort p q).receiver = s.receiver := rfl
@[simp] theorem setPort_inbox (s : State) (p : PortId) (q : Port) : (s.setPort p q).inbox = s.inbox := rfl
@[simp] theorem setPort_overflow (s : State) (p : PortId) (q : Port) : (s.setPort p q).overflow = s.overflow := rfl
@[simp] theorem setPort_sender (s : State) (p : PortId) (q : Port) : (s.setPort p q).sender = s.sender := rfl
@[simp] theorem setPort_ports (s : State) (p : PortId) (q : Port) : (s.setPort p q).ports = s.ports.set p q := rfl
@[simp] theorem setPort_profiles (s : State) (p : PortId) (q : Port) : (s.setPort p q).profiles = s.profiles := rfl
@[simp] theorem setPort_queue (s : State) (p : PortId) (q : Port) : (s.setPort p q).queue = s.queue := rfl
@[simp] theorem setPort_nextNumber (s : State) (p : PortId) (q : Port) : (s.setPort p q).nextNumber = s.nextNumber := rfl
@[simp] theorem setPort_recheck (s : State) (p : PortId) (q : Port) : (s.setPort p q).recheck = s.recheck := rfl
@[simp] theorem setPort_banks (s : State) (p : PortId) (q : Port) : (s.setPort p q).banks = s.banks := rfl
@[simp] theorem setPort_engines (s : State) (p : PortId) (q : Port) : (s.setPort p q).engines = s.engines := rfl
@[simp] theorem setPort_results (s : State) (p : PortId) (q : Port) : (s.setPort p q).results = s.results := rfl
@[simp] theorem setPort_slots (s : State) (p : PortId) (q : Port) : (s.setPort p q).slots = s.slots := rfl
@[simp] theorem setPort_reports (s : State) (p : PortId) (q : Port) : (s.setPort p q).reports = s.reports := rfl
@[simp] theorem setPort_passDue (s : State) (p : PortId) (q : Port) : (s.setPort p q).passDue = s.passDue := rfl
@[simp] theorem setPort_fetch (s : State) (p : PortId) (q : Port) : (s.setPort p q).fetch = s.fetch := rfl
@[simp] theorem setPort_choices (s : State) (p : PortId) (q : Port) : (s.setPort p q).choices = s.choices := rfl
@[simp] theorem setPort_pending (s : State) (p : PortId) (q : Port) : (s.setPort p q).pending = s.pending := rfl
@[simp] theorem setPort_profile (s : State) (p : PortId) (q : Port) (p' : PortId) : (s.setPort p q).profile p' = s.profile p' := rfl
@[simp] theorem setPort_recheckOf (s : State) (p : PortId) (q : Port) (p' : PortId) : (s.setPort p q).recheckOf p' = s.recheckOf p' := rfl
@[simp] theorem setPort_bank (s : State) (p : PortId) (q : Port) (b' : BankId) : (s.setPort p q).bank b' = s.bank b' := rfl
@[simp] theorem setPort_engine (s : State) (p : PortId) (q : Port) (e' : EngineId) : (s.setPort p q).engine e' = s.engine e' := rfl
@[simp] theorem setPort_result (s : State) (p : PortId) (q : Port) (p' : PortId) : (s.setPort p q).result p' = s.result p' := rfl
@[simp] theorem setPort_slot (s : State) (p : PortId) (q : Port) (t' : SlotId) : (s.setPort p q).slot t' = s.slot t' := rfl

/-! ### modPort -/

@[simp] theorem modPort_resetLow (s : State) (p : PortId) (f : Port → Port) : (s.modPort p f).resetLow = s.resetLow := rfl
@[simp] theorem modPort_lastCause (s : State) (p : PortId) (f : Port → Port) : (s.modPort p f).lastCause = s.lastCause := rfl
@[simp] theorem modPort_receiver (s : State) (p : PortId) (f : Port → Port) : (s.modPort p f).receiver = s.receiver := rfl
@[simp] theorem modPort_inbox (s : State) (p : PortId) (f : Port → Port) : (s.modPort p f).inbox = s.inbox := rfl
@[simp] theorem modPort_overflow (s : State) (p : PortId) (f : Port → Port) : (s.modPort p f).overflow = s.overflow := rfl
@[simp] theorem modPort_sender (s : State) (p : PortId) (f : Port → Port) : (s.modPort p f).sender = s.sender := rfl
@[simp] theorem modPort_ports (s : State) (p : PortId) (f : Port → Port) : (s.modPort p f).ports = s.ports.set p (f (s.port p)) := rfl
@[simp] theorem modPort_profiles (s : State) (p : PortId) (f : Port → Port) : (s.modPort p f).profiles = s.profiles := rfl
@[simp] theorem modPort_queue (s : State) (p : PortId) (f : Port → Port) : (s.modPort p f).queue = s.queue := rfl
@[simp] theorem modPort_nextNumber (s : State) (p : PortId) (f : Port → Port) : (s.modPort p f).nextNumber = s.nextNumber := rfl
@[simp] theorem modPort_recheck (s : State) (p : PortId) (f : Port → Port) : (s.modPort p f).recheck = s.recheck := rfl
@[simp] theorem modPort_banks (s : State) (p : PortId) (f : Port → Port) : (s.modPort p f).banks = s.banks := rfl
@[simp] theorem modPort_engines (s : State) (p : PortId) (f : Port → Port) : (s.modPort p f).engines = s.engines := rfl
@[simp] theorem modPort_results (s : State) (p : PortId) (f : Port → Port) : (s.modPort p f).results = s.results := rfl
@[simp] theorem modPort_slots (s : State) (p : PortId) (f : Port → Port) : (s.modPort p f).slots = s.slots := rfl
@[simp] theorem modPort_reports (s : State) (p : PortId) (f : Port → Port) : (s.modPort p f).reports = s.reports := rfl
@[simp] theorem modPort_passDue (s : State) (p : PortId) (f : Port → Port) : (s.modPort p f).passDue = s.passDue := rfl
@[simp] theorem modPort_fetch (s : State) (p : PortId) (f : Port → Port) : (s.modPort p f).fetch = s.fetch := rfl
@[simp] theorem modPort_choices (s : State) (p : PortId) (f : Port → Port) : (s.modPort p f).choices = s.choices := rfl
@[simp] theorem modPort_pending (s : State) (p : PortId) (f : Port → Port) : (s.modPort p f).pending = s.pending := rfl
@[simp] theorem modPort_profile (s : State) (p : PortId) (f : Port → Port) (p' : PortId) : (s.modPort p f).profile p' = s.profile p' := rfl
@[simp] theorem modPort_recheckOf (s : State) (p : PortId) (f : Port → Port) (p' : PortId) : (s.modPort p f).recheckOf p' = s.recheckOf p' := rfl
@[simp] theorem modPort_bank (s : State) (p : PortId) (f : Port → Port) (b' : BankId) : (s.modPort p f).bank b' = s.bank b' := rfl
@[simp] theorem modPort_engine (s : State) (p : PortId) (f : Port → Port) (e' : EngineId) : (s.modPort p f).engine e' = s.engine e' := rfl
@[simp] theorem modPort_result (s : State) (p : PortId) (f : Port → Port) (p' : PortId) : (s.modPort p f).result p' = s.result p' := rfl
@[simp] theorem modPort_slot (s : State) (p : PortId) (f : Port → Port) (t' : SlotId) : (s.modPort p f).slot t' = s.slot t' := rfl

/-! ### setProfile -/

@[simp] theorem setProfile_resetLow (s : State) (p : PortId) (r : Profile) : (s.setProfile p r).resetLow = s.resetLow := rfl
@[simp] theorem setProfile_lastCause (s : State) (p : PortId) (r : Profile) : (s.setProfile p r).lastCause = s.lastCause := rfl
@[simp] theorem setProfile_receiver (s : State) (p : PortId) (r : Profile) : (s.setProfile p r).receiver = s.receiver := rfl
@[simp] theorem setProfile_inbox (s : State) (p : PortId) (r : Profile) : (s.setProfile p r).inbox = s.inbox := rfl
@[simp] theorem setProfile_overflow (s : State) (p : PortId) (r : Profile) : (s.setProfile p r).overflow = s.overflow := rfl
@[simp] theorem setProfile_sender (s : State) (p : PortId) (r : Profile) : (s.setProfile p r).sender = s.sender := rfl
@[simp] theorem setProfile_ports (s : State) (p : PortId) (r : Profile) : (s.setProfile p r).ports = s.ports := rfl
@[simp] theorem setProfile_profiles (s : State) (p : PortId) (r : Profile) : (s.setProfile p r).profiles = s.profiles.set p r := rfl
@[simp] theorem setProfile_queue (s : State) (p : PortId) (r : Profile) : (s.setProfile p r).queue = s.queue := rfl
@[simp] theorem setProfile_nextNumber (s : State) (p : PortId) (r : Profile) : (s.setProfile p r).nextNumber = s.nextNumber := rfl
@[simp] theorem setProfile_recheck (s : State) (p : PortId) (r : Profile) : (s.setProfile p r).recheck = s.recheck := rfl
@[simp] theorem setProfile_banks (s : State) (p : PortId) (r : Profile) : (s.setProfile p r).banks = s.banks := rfl
@[simp] theorem setProfile_engines (s : State) (p : PortId) (r : Profile) : (s.setProfile p r).engines = s.engines := rfl
@[simp] theorem setProfile_results (s : State) (p : PortId) (r : Profile) : (s.setProfile p r).results = s.results := rfl
@[simp] theorem setProfile_slots (s : State) (p : PortId) (r : Profile) : (s.setProfile p r).slots = s.slots := rfl
@[simp] theorem setProfile_reports (s : State) (p : PortId) (r : Profile) : (s.setProfile p r).reports = s.reports := rfl
@[simp] theorem setProfile_passDue (s : State) (p : PortId) (r : Profile) : (s.setProfile p r).passDue = s.passDue := rfl
@[simp] theorem setProfile_fetch (s : State) (p : PortId) (r : Profile) : (s.setProfile p r).fetch = s.fetch := rfl
@[simp] theorem setProfile_choices (s : State) (p : PortId) (r : Profile) : (s.setProfile p r).choices = s.choices := rfl
@[simp] theorem setProfile_pending (s : State) (p : PortId) (r : Profile) : (s.setProfile p r).pending = s.pending := rfl
@[simp] theorem setProfile_port (s : State) (p : PortId) (r : Profile) (p' : PortId) : (s.setProfile p r).port p' = s.port p' := rfl
@[simp] theorem setProfile_recheckOf (s : State) (p : PortId) (r : Profile) (p' : PortId) : (s.setProfile p r).recheckOf p' = s.recheckOf p' := rfl
@[simp] theorem setProfile_bank (s : State) (p : PortId) (r : Profile) (b' : BankId) : (s.setProfile p r).bank b' = s.bank b' := rfl
@[simp] theorem setProfile_engine (s : State) (p : PortId) (r : Profile) (e' : EngineId) : (s.setProfile p r).engine e' = s.engine e' := rfl
@[simp] theorem setProfile_result (s : State) (p : PortId) (r : Profile) (p' : PortId) : (s.setProfile p r).result p' = s.result p' := rfl
@[simp] theorem setProfile_slot (s : State) (p : PortId) (r : Profile) (t' : SlotId) : (s.setProfile p r).slot t' = s.slot t' := rfl

/-! ### setRecheck -/

@[simp] theorem setRecheck_resetLow (s : State) (p : PortId) (t : Option Nat) : (s.setRecheck p t).resetLow = s.resetLow := rfl
@[simp] theorem setRecheck_lastCause (s : State) (p : PortId) (t : Option Nat) : (s.setRecheck p t).lastCause = s.lastCause := rfl
@[simp] theorem setRecheck_receiver (s : State) (p : PortId) (t : Option Nat) : (s.setRecheck p t).receiver = s.receiver := rfl
@[simp] theorem setRecheck_inbox (s : State) (p : PortId) (t : Option Nat) : (s.setRecheck p t).inbox = s.inbox := rfl
@[simp] theorem setRecheck_overflow (s : State) (p : PortId) (t : Option Nat) : (s.setRecheck p t).overflow = s.overflow := rfl
@[simp] theorem setRecheck_sender (s : State) (p : PortId) (t : Option Nat) : (s.setRecheck p t).sender = s.sender := rfl
@[simp] theorem setRecheck_ports (s : State) (p : PortId) (t : Option Nat) : (s.setRecheck p t).ports = s.ports := rfl
@[simp] theorem setRecheck_profiles (s : State) (p : PortId) (t : Option Nat) : (s.setRecheck p t).profiles = s.profiles := rfl
@[simp] theorem setRecheck_queue (s : State) (p : PortId) (t : Option Nat) : (s.setRecheck p t).queue = s.queue := rfl
@[simp] theorem setRecheck_nextNumber (s : State) (p : PortId) (t : Option Nat) : (s.setRecheck p t).nextNumber = s.nextNumber := rfl
@[simp] theorem setRecheck_recheck (s : State) (p : PortId) (t : Option Nat) : (s.setRecheck p t).recheck = s.recheck.set p t := rfl
@[simp] theorem setRecheck_banks (s : State) (p : PortId) (t : Option Nat) : (s.setRecheck p t).banks = s.banks := rfl
@[simp] theorem setRecheck_engines (s : State) (p : PortId) (t : Option Nat) : (s.setRecheck p t).engines = s.engines := rfl
@[simp] theorem setRecheck_results (s : State) (p : PortId) (t : Option Nat) : (s.setRecheck p t).results = s.results := rfl
@[simp] theorem setRecheck_slots (s : State) (p : PortId) (t : Option Nat) : (s.setRecheck p t).slots = s.slots := rfl
@[simp] theorem setRecheck_reports (s : State) (p : PortId) (t : Option Nat) : (s.setRecheck p t).reports = s.reports := rfl
@[simp] theorem setRecheck_passDue (s : State) (p : PortId) (t : Option Nat) : (s.setRecheck p t).passDue = s.passDue := rfl
@[simp] theorem setRecheck_fetch (s : State) (p : PortId) (t : Option Nat) : (s.setRecheck p t).fetch = s.fetch := rfl
@[simp] theorem setRecheck_choices (s : State) (p : PortId) (t : Option Nat) : (s.setRecheck p t).choices = s.choices := rfl
@[simp] theorem setRecheck_pending (s : State) (p : PortId) (t : Option Nat) : (s.setRecheck p t).pending = s.pending := rfl
@[simp] theorem setRecheck_port (s : State) (p : PortId) (t : Option Nat) (p' : PortId) : (s.setRecheck p t).port p' = s.port p' := rfl
@[simp] theorem setRecheck_profile (s : State) (p : PortId) (t : Option Nat) (p' : PortId) : (s.setRecheck p t).profile p' = s.profile p' := rfl
@[simp] theorem setRecheck_bank (s : State) (p : PortId) (t : Option Nat) (b' : BankId) : (s.setRecheck p t).bank b' = s.bank b' := rfl
@[simp] theorem setRecheck_engine (s : State) (p : PortId) (t : Option Nat) (e' : EngineId) : (s.setRecheck p t).engine e' = s.engine e' := rfl
@[simp] theorem setRecheck_result (s : State) (p : PortId) (t : Option Nat) (p' : PortId) : (s.setRecheck p t).result p' = s.result p' := rfl
@[simp] theorem setRecheck_slot (s : State) (p : PortId) (t : Option Nat) (t' : SlotId) : (s.setRecheck p t).slot t' = s.slot t' := rfl

/-! ### setBank -/

@[simp] theorem setBank_resetLow (s : State) (b : BankId) (u : Option BankUse) : (s.setBank b u).resetLow = s.resetLow := rfl
@[simp] theorem setBank_lastCause (s : State) (b : BankId) (u : Option BankUse) : (s.setBank b u).lastCause = s.lastCause := rfl
@[simp] theorem setBank_receiver (s : State) (b : BankId) (u : Option BankUse) : (s.setBank b u).receiver = s.receiver := rfl
@[simp] theorem setBank_inbox (s : State) (b : BankId) (u : Option BankUse) : (s.setBank b u).inbox = s.inbox := rfl
@[simp] theorem setBank_overflow (s : State) (b : BankId) (u : Option BankUse) : (s.setBank b u).overflow = s.overflow := rfl
@[simp] theorem setBank_sender (s : State) (b : BankId) (u : Option BankUse) : (s.setBank b u).sender = s.sender := rfl
@[simp] theorem setBank_ports (s : State) (b : BankId) (u : Option BankUse) : (s.setBank b u).ports = s.ports := rfl
@[simp] theorem setBank_profiles (s : State) (b : BankId) (u : Option BankUse) : (s.setBank b u).profiles = s.profiles := rfl
@[simp] theorem setBank_queue (s : State) (b : BankId) (u : Option BankUse) : (s.setBank b u).queue = s.queue := rfl
@[simp] theorem setBank_nextNumber (s : State) (b : BankId) (u : Option BankUse) : (s.setBank b u).nextNumber = s.nextNumber := rfl
@[simp] theorem setBank_recheck (s : State) (b : BankId) (u : Option BankUse) : (s.setBank b u).recheck = s.recheck := rfl
@[simp] theorem setBank_banks (s : State) (b : BankId) (u : Option BankUse) : (s.setBank b u).banks = s.banks.set b u := rfl
@[simp] theorem setBank_engines (s : State) (b : BankId) (u : Option BankUse) : (s.setBank b u).engines = s.engines := rfl
@[simp] theorem setBank_results (s : State) (b : BankId) (u : Option BankUse) : (s.setBank b u).results = s.results := rfl
@[simp] theorem setBank_slots (s : State) (b : BankId) (u : Option BankUse) : (s.setBank b u).slots = s.slots := rfl
@[simp] theorem setBank_reports (s : State) (b : BankId) (u : Option BankUse) : (s.setBank b u).reports = s.reports := rfl
@[simp] theorem setBank_passDue (s : State) (b : BankId) (u : Option BankUse) : (s.setBank b u).passDue = s.passDue := rfl
@[simp] theorem setBank_fetch (s : State) (b : BankId) (u : Option BankUse) : (s.setBank b u).fetch = s.fetch := rfl
@[simp] theorem setBank_choices (s : State) (b : BankId) (u : Option BankUse) : (s.setBank b u).choices = s.choices := rfl
@[simp] theorem setBank_pending (s : State) (b : BankId) (u : Option BankUse) : (s.setBank b u).pending = s.pending := rfl
@[simp] theorem setBank_port (s : State) (b : BankId) (u : Option BankUse) (p' : PortId) : (s.setBank b u).port p' = s.port p' := rfl
@[simp] theorem setBank_profile (s : State) (b : BankId) (u : Option BankUse) (p' : PortId) : (s.setBank b u).profile p' = s.profile p' := rfl
@[simp] theorem setBank_recheckOf (s : State) (b : BankId) (u : Option BankUse) (p' : PortId) : (s.setBank b u).recheckOf p' = s.recheckOf p' := rfl
@[simp] theorem setBank_engine (s : State) (b : BankId) (u : Option BankUse) (e' : EngineId) : (s.setBank b u).engine e' = s.engine e' := rfl
@[simp] theorem setBank_result (s : State) (b : BankId) (u : Option BankUse) (p' : PortId) : (s.setBank b u).result p' = s.result p' := rfl
@[simp] theorem setBank_slot (s : State) (b : BankId) (u : Option BankUse) (t' : SlotId) : (s.setBank b u).slot t' = s.slot t' := rfl

/-! ### setEngine -/

@[simp] theorem setEngine_resetLow (s : State) (e : EngineId) (x : Engine) : (s.setEngine e x).resetLow = s.resetLow := rfl
@[simp] theorem setEngine_lastCause (s : State) (e : EngineId) (x : Engine) : (s.setEngine e x).lastCause = s.lastCause := rfl
@[simp] theorem setEngine_receiver (s : State) (e : EngineId) (x : Engine) : (s.setEngine e x).receiver = s.receiver := rfl
@[simp] theorem setEngine_inbox (s : State) (e : EngineId) (x : Engine) : (s.setEngine e x).inbox = s.inbox := rfl
@[simp] theorem setEngine_overflow (s : State) (e : EngineId) (x : Engine) : (s.setEngine e x).overflow = s.overflow := rfl
@[simp] theorem setEngine_sender (s : State) (e : EngineId) (x : Engine) : (s.setEngine e x).sender = s.sender := rfl
@[simp] theorem setEngine_ports (s : State) (e : EngineId) (x : Engine) : (s.setEngine e x).ports = s.ports := rfl
@[simp] theorem setEngine_profiles (s : State) (e : EngineId) (x : Engine) : (s.setEngine e x).profiles = s.profiles := rfl
@[simp] theorem setEngine_queue (s : State) (e : EngineId) (x : Engine) : (s.setEngine e x).queue = s.queue := rfl
@[simp] theorem setEngine_nextNumber (s : State) (e : EngineId) (x : Engine) : (s.setEngine e x).nextNumber = s.nextNumber := rfl
@[simp] theorem setEngine_recheck (s : State) (e : EngineId) (x : Engine) : (s.setEngine e x).recheck = s.recheck := rfl
@[simp] theorem setEngine_banks (s : State) (e : EngineId) (x : Engine) : (s.setEngine e x).banks = s.banks := rfl
@[simp] theorem setEngine_engines (s : State) (e : EngineId) (x : Engine) : (s.setEngine e x).engines = s.engines.set e x := rfl
@[simp] theorem setEngine_results (s : State) (e : EngineId) (x : Engine) : (s.setEngine e x).results = s.results := rfl
@[simp] theorem setEngine_slots (s : State) (e : EngineId) (x : Engine) : (s.setEngine e x).slots = s.slots := rfl
@[simp] theorem setEngine_reports (s : State) (e : EngineId) (x : Engine) : (s.setEngine e x).reports = s.reports := rfl
@[simp] theorem setEngine_passDue (s : State) (e : EngineId) (x : Engine) : (s.setEngine e x).passDue = s.passDue := rfl
@[simp] theorem setEngine_fetch (s : State) (e : EngineId) (x : Engine) : (s.setEngine e x).fetch = s.fetch := rfl
@[simp] theorem setEngine_choices (s : State) (e : EngineId) (x : Engine) : (s.setEngine e x).choices = s.choices := rfl
@[simp] theorem setEngine_pending (s : State) (e : EngineId) (x : Engine) : (s.setEngine e x).pending = s.pending := rfl
@[simp] theorem setEngine_port (s : State) (e : EngineId) (x : Engine) (p' : PortId) : (s.setEngine e x).port p' = s.port p' := rfl
@[simp] theorem setEngine_profile (s : State) (e : EngineId) (x : Engine) (p' : PortId) : (s.setEngine e x).profile p' = s.profile p' := rfl
@[simp] theorem setEngine_recheckOf (s : State) (e : EngineId) (x : Engine) (p' : PortId) : (s.setEngine e x).recheckOf p' = s.recheckOf p' := rfl
@[simp] theorem setEngine_bank (s : State) (e : EngineId) (x : Engine) (b' : BankId) : (s.setEngine e x).bank b' = s.bank b' := rfl
@[simp] theorem setEngine_result (s : State) (e : EngineId) (x : Engine) (p' : PortId) : (s.setEngine e x).result p' = s.result p' := rfl
@[simp] theorem setEngine_slot (s : State) (e : EngineId) (x : Engine) (t' : SlotId) : (s.setEngine e x).slot t' = s.slot t' := rfl

/-! ### setResult -/

@[simp] theorem setResult_resetLow (s : State) (p : PortId) (r : Option ResultRecord) : (s.setResult p r).resetLow = s.resetLow := rfl
@[simp] theorem setResult_lastCause (s : State) (p : PortId) (r : Option ResultRecord) : (s.setResult p r).lastCause = s.lastCause := rfl
@[simp] theorem setResult_receiver (s : State) (p : PortId) (r : Option ResultRecord) : (s.setResult p r).receiver = s.receiver := rfl
@[simp] theorem setResult_inbox (s : State) (p : PortId) (r : Option ResultRecord) : (s.setResult p r).inbox = s.inbox := rfl
@[simp] theorem setResult_overflow (s : State) (p : PortId) (r : Option ResultRecord) : (s.setResult p r).overflow = s.overflow := rfl
@[simp] theorem setResult_sender (s : State) (p : PortId) (r : Option ResultRecord) : (s.setResult p r).sender = s.sender := rfl
@[simp] theorem setResult_ports (s : State) (p : PortId) (r : Option ResultRecord) : (s.setResult p r).ports = s.ports := rfl
@[simp] theorem setResult_profiles (s : State) (p : PortId) (r : Option ResultRecord) : (s.setResult p r).profiles = s.profiles := rfl
@[simp] theorem setResult_queue (s : State) (p : PortId) (r : Option ResultRecord) : (s.setResult p r).queue = s.queue := rfl
@[simp] theorem setResult_nextNumber (s : State) (p : PortId) (r : Option ResultRecord) : (s.setResult p r).nextNumber = s.nextNumber := rfl
@[simp] theorem setResult_recheck (s : State) (p : PortId) (r : Option ResultRecord) : (s.setResult p r).recheck = s.recheck := rfl
@[simp] theorem setResult_banks (s : State) (p : PortId) (r : Option ResultRecord) : (s.setResult p r).banks = s.banks := rfl
@[simp] theorem setResult_engines (s : State) (p : PortId) (r : Option ResultRecord) : (s.setResult p r).engines = s.engines := rfl
@[simp] theorem setResult_results (s : State) (p : PortId) (r : Option ResultRecord) : (s.setResult p r).results = s.results.set p r := rfl
@[simp] theorem setResult_slots (s : State) (p : PortId) (r : Option ResultRecord) : (s.setResult p r).slots = s.slots := rfl
@[simp] theorem setResult_reports (s : State) (p : PortId) (r : Option ResultRecord) : (s.setResult p r).reports = s.reports := rfl
@[simp] theorem setResult_passDue (s : State) (p : PortId) (r : Option ResultRecord) : (s.setResult p r).passDue = s.passDue := rfl
@[simp] theorem setResult_fetch (s : State) (p : PortId) (r : Option ResultRecord) : (s.setResult p r).fetch = s.fetch := rfl
@[simp] theorem setResult_choices (s : State) (p : PortId) (r : Option ResultRecord) : (s.setResult p r).choices = s.choices := rfl
@[simp] theorem setResult_pending (s : State) (p : PortId) (r : Option ResultRecord) : (s.setResult p r).pending = s.pending := rfl
@[simp] theorem setResult_port (s : State) (p : PortId) (r : Option ResultRecord) (p' : PortId) : (s.setResult p r).port p' = s.port p' := rfl
@[simp] theorem setResult_profile (s : State) (p : PortId) (r : Option ResultRecord) (p' : PortId) : (s.setResult p r).profile p' = s.profile p' := rfl
@[simp] theorem setResult_recheckOf (s : State) (p : PortId) (r : Option ResultRecord) (p' : PortId) : (s.setResult p r).recheckOf p' = s.recheckOf p' := rfl
@[simp] theorem setResult_bank (s : State) (p : PortId) (r : Option ResultRecord) (b' : BankId) : (s.setResult p r).bank b' = s.bank b' := rfl
@[simp] theorem setResult_engine (s : State) (p : PortId) (r : Option ResultRecord) (e' : EngineId) : (s.setResult p r).engine e' = s.engine e' := rfl
@[simp] theorem setResult_slot (s : State) (p : PortId) (r : Option ResultRecord) (t' : SlotId) : (s.setResult p r).slot t' = s.slot t' := rfl

/-! ### setSlot -/

@[simp] theorem setSlot_resetLow (s : State) (t : SlotId) (x : Slot) : (s.setSlot t x).resetLow = s.resetLow := rfl
@[simp] theorem setSlot_lastCause (s : State) (t : SlotId) (x : Slot) : (s.setSlot t x).lastCause = s.lastCause := rfl
@[simp] theorem setSlot_receiver (s : State) (t : SlotId) (x : Slot) : (s.setSlot t x).receiver = s.receiver := rfl
@[simp] theorem setSlot_inbox (s : State) (t : SlotId) (x : Slot) : (s.setSlot t x).inbox = s.inbox := rfl
@[simp] theorem setSlot_overflow (s : State) (t : SlotId) (x : Slot) : (s.setSlot t x).overflow = s.overflow := rfl
@[simp] theorem setSlot_sender (s : State) (t : SlotId) (x : Slot) : (s.setSlot t x).sender = s.sender := rfl
@[simp] theorem setSlot_ports (s : State) (t : SlotId) (x : Slot) : (s.setSlot t x).ports = s.ports := rfl
@[simp] theorem setSlot_profiles (s : State) (t : SlotId) (x : Slot) : (s.setSlot t x).profiles = s.profiles := rfl
@[simp] theorem setSlot_queue (s : State) (t : SlotId) (x : Slot) : (s.setSlot t x).queue = s.queue := rfl
@[simp] theorem setSlot_nextNumber (s : State) (t : SlotId) (x : Slot) : (s.setSlot t x).nextNumber = s.nextNumber := rfl
@[simp] theorem setSlot_recheck (s : State) (t : SlotId) (x : Slot) : (s.setSlot t x).recheck = s.recheck := rfl
@[simp] theorem setSlot_banks (s : State) (t : SlotId) (x : Slot) : (s.setSlot t x).banks = s.banks := rfl
@[simp] theorem setSlot_engines (s : State) (t : SlotId) (x : Slot) : (s.setSlot t x).engines = s.engines := rfl
@[simp] theorem setSlot_results (s : State) (t : SlotId) (x : Slot) : (s.setSlot t x).results = s.results := rfl
@[simp] theorem setSlot_slots (s : State) (t : SlotId) (x : Slot) : (s.setSlot t x).slots = s.slots.set t x := rfl
@[simp] theorem setSlot_reports (s : State) (t : SlotId) (x : Slot) : (s.setSlot t x).reports = s.reports := rfl
@[simp] theorem setSlot_passDue (s : State) (t : SlotId) (x : Slot) : (s.setSlot t x).passDue = s.passDue := rfl
@[simp] theorem setSlot_fetch (s : State) (t : SlotId) (x : Slot) : (s.setSlot t x).fetch = s.fetch := rfl
@[simp] theorem setSlot_choices (s : State) (t : SlotId) (x : Slot) : (s.setSlot t x).choices = s.choices := rfl
@[simp] theorem setSlot_pending (s : State) (t : SlotId) (x : Slot) : (s.setSlot t x).pending = s.pending := rfl
@[simp] theorem setSlot_port (s : State) (t : SlotId) (x : Slot) (p' : PortId) : (s.setSlot t x).port p' = s.port p' := rfl
@[simp] theorem setSlot_profile (s : State) (t : SlotId) (x : Slot) (p' : PortId) : (s.setSlot t x).profile p' = s.profile p' := rfl
@[simp] theorem setSlot_recheckOf (s : State) (t : SlotId) (x : Slot) (p' : PortId) : (s.setSlot t x).recheckOf p' = s.recheckOf p' := rfl
@[simp] theorem setSlot_bank (s : State) (t : SlotId) (x : Slot) (b' : BankId) : (s.setSlot t x).bank b' = s.bank b' := rfl
@[simp] theorem setSlot_engine (s : State) (t : SlotId) (x : Slot) (e' : EngineId) : (s.setSlot t x).engine e' = s.engine e' := rfl
@[simp] theorem setSlot_result (s : State) (t : SlotId) (x : Slot) (p' : PortId) : (s.setSlot t x).result p' = s.result p' := rfl

/-! ### setQueue -/

@[simp] theorem setQueue_resetLow (s : State) (q : List TestRecord) : (s.setQueue q).resetLow = s.resetLow := rfl
@[simp] theorem setQueue_lastCause (s : State) (q : List TestRecord) : (s.setQueue q).lastCause = s.lastCause := rfl
@[simp] theorem setQueue_receiver (s : State) (q : List TestRecord) : (s.setQueue q).receiver = s.receiver := rfl
@[simp] theorem setQueue_inbox (s : State) (q : List TestRecord) : (s.setQueue q).inbox = s.inbox := rfl
@[simp] theorem setQueue_overflow (s : State) (q : List TestRecord) : (s.setQueue q).overflow = s.overflow := rfl
@[simp] theorem setQueue_sender (s : State) (q : List TestRecord) : (s.setQueue q).sender = s.sender := rfl
@[simp] theorem setQueue_ports (s : State) (q : List TestRecord) : (s.setQueue q).ports = s.ports := rfl
@[simp] theorem setQueue_profiles (s : State) (q : List TestRecord) : (s.setQueue q).profiles = s.profiles := rfl
@[simp] theorem setQueue_queue (s : State) (q : List TestRecord) : (s.setQueue q).queue = q := rfl
@[simp] theorem setQueue_nextNumber (s : State) (q : List TestRecord) : (s.setQueue q).nextNumber = s.nextNumber := rfl
@[simp] theorem setQueue_recheck (s : State) (q : List TestRecord) : (s.setQueue q).recheck = s.recheck := rfl
@[simp] theorem setQueue_banks (s : State) (q : List TestRecord) : (s.setQueue q).banks = s.banks := rfl
@[simp] theorem setQueue_engines (s : State) (q : List TestRecord) : (s.setQueue q).engines = s.engines := rfl
@[simp] theorem setQueue_results (s : State) (q : List TestRecord) : (s.setQueue q).results = s.results := rfl
@[simp] theorem setQueue_slots (s : State) (q : List TestRecord) : (s.setQueue q).slots = s.slots := rfl
@[simp] theorem setQueue_reports (s : State) (q : List TestRecord) : (s.setQueue q).reports = s.reports := rfl
@[simp] theorem setQueue_passDue (s : State) (q : List TestRecord) : (s.setQueue q).passDue = s.passDue := rfl
@[simp] theorem setQueue_fetch (s : State) (q : List TestRecord) : (s.setQueue q).fetch = s.fetch := rfl
@[simp] theorem setQueue_choices (s : State) (q : List TestRecord) : (s.setQueue q).choices = s.choices := rfl
@[simp] theorem setQueue_pending (s : State) (q : List TestRecord) : (s.setQueue q).pending = s.pending := rfl
@[simp] theorem setQueue_port (s : State) (q : List TestRecord) (p' : PortId) : (s.setQueue q).port p' = s.port p' := rfl
@[simp] theorem setQueue_profile (s : State) (q : List TestRecord) (p' : PortId) : (s.setQueue q).profile p' = s.profile p' := rfl
@[simp] theorem setQueue_recheckOf (s : State) (q : List TestRecord) (p' : PortId) : (s.setQueue q).recheckOf p' = s.recheckOf p' := rfl
@[simp] theorem setQueue_bank (s : State) (q : List TestRecord) (b' : BankId) : (s.setQueue q).bank b' = s.bank b' := rfl
@[simp] theorem setQueue_engine (s : State) (q : List TestRecord) (e' : EngineId) : (s.setQueue q).engine e' = s.engine e' := rfl
@[simp] theorem setQueue_result (s : State) (q : List TestRecord) (p' : PortId) : (s.setQueue q).result p' = s.result p' := rfl
@[simp] theorem setQueue_slot (s : State) (q : List TestRecord) (t' : SlotId) : (s.setQueue q).slot t' = s.slot t' := rfl

/-! ### setNextNumber -/

@[simp] theorem setNextNumber_resetLow (s : State) (n : Nat) : (s.setNextNumber n).resetLow = s.resetLow := rfl
@[simp] theorem setNextNumber_lastCause (s : State) (n : Nat) : (s.setNextNumber n).lastCause = s.lastCause := rfl
@[simp] theorem setNextNumber_receiver (s : State) (n : Nat) : (s.setNextNumber n).receiver = s.receiver := rfl
@[simp] theorem setNextNumber_inbox (s : State) (n : Nat) : (s.setNextNumber n).inbox = s.inbox := rfl
@[simp] theorem setNextNumber_overflow (s : State) (n : Nat) : (s.setNextNumber n).overflow = s.overflow := rfl
@[simp] theorem setNextNumber_sender (s : State) (n : Nat) : (s.setNextNumber n).sender = s.sender := rfl
@[simp] theorem setNextNumber_ports (s : State) (n : Nat) : (s.setNextNumber n).ports = s.ports := rfl
@[simp] theorem setNextNumber_profiles (s : State) (n : Nat) : (s.setNextNumber n).profiles = s.profiles := rfl
@[simp] theorem setNextNumber_queue (s : State) (n : Nat) : (s.setNextNumber n).queue = s.queue := rfl
@[simp] theorem setNextNumber_nextNumber (s : State) (n : Nat) : (s.setNextNumber n).nextNumber = n := rfl
@[simp] theorem setNextNumber_recheck (s : State) (n : Nat) : (s.setNextNumber n).recheck = s.recheck := rfl
@[simp] theorem setNextNumber_banks (s : State) (n : Nat) : (s.setNextNumber n).banks = s.banks := rfl
@[simp] theorem setNextNumber_engines (s : State) (n : Nat) : (s.setNextNumber n).engines = s.engines := rfl
@[simp] theorem setNextNumber_results (s : State) (n : Nat) : (s.setNextNumber n).results = s.results := rfl
@[simp] theorem setNextNumber_slots (s : State) (n : Nat) : (s.setNextNumber n).slots = s.slots := rfl
@[simp] theorem setNextNumber_reports (s : State) (n : Nat) : (s.setNextNumber n).reports = s.reports := rfl
@[simp] theorem setNextNumber_passDue (s : State) (n : Nat) : (s.setNextNumber n).passDue = s.passDue := rfl
@[simp] theorem setNextNumber_fetch (s : State) (n : Nat) : (s.setNextNumber n).fetch = s.fetch := rfl
@[simp] theorem setNextNumber_choices (s : State) (n : Nat) : (s.setNextNumber n).choices = s.choices := rfl
@[simp] theorem setNextNumber_pending (s : State) (n : Nat) : (s.setNextNumber n).pending = s.pending := rfl
@[simp] theorem setNextNumber_port (s : State) (n : Nat) (p' : PortId) : (s.setNextNumber n).port p' = s.port p' := rfl
@[simp] theorem setNextNumber_profile (s : State) (n : Nat) (p' : PortId) : (s.setNextNumber n).profile p' = s.profile p' := rfl
@[simp] theorem setNextNumber_recheckOf (s : State) (n : Nat) (p' : PortId) : (s.setNextNumber n).recheckOf p' = s.recheckOf p' := rfl
@[simp] theorem setNextNumber_bank (s : State) (n : Nat) (b' : BankId) : (s.setNextNumber n).bank b' = s.bank b' := rfl
@[simp] theorem setNextNumber_engine (s : State) (n : Nat) (e' : EngineId) : (s.setNextNumber n).engine e' = s.engine e' := rfl
@[simp] theorem setNextNumber_result (s : State) (n : Nat) (p' : PortId) : (s.setNextNumber n).result p' = s.result p' := rfl
@[simp] theorem setNextNumber_slot (s : State) (n : Nat) (t' : SlotId) : (s.setNextNumber n).slot t' = s.slot t' := rfl

/-! ### setReports -/

@[simp] theorem setReports_resetLow (s : State) (r : List Entry) : (s.setReports r).resetLow = s.resetLow := rfl
@[simp] theorem setReports_lastCause (s : State) (r : List Entry) : (s.setReports r).lastCause = s.lastCause := rfl
@[simp] theorem setReports_receiver (s : State) (r : List Entry) : (s.setReports r).receiver = s.receiver := rfl
@[simp] theorem setReports_inbox (s : State) (r : List Entry) : (s.setReports r).inbox = s.inbox := rfl
@[simp] theorem setReports_overflow (s : State) (r : List Entry) : (s.setReports r).overflow = s.overflow := rfl
@[simp] theorem setReports_sender (s : State) (r : List Entry) : (s.setReports r).sender = s.sender := rfl
@[simp] theorem setReports_ports (s : State) (r : List Entry) : (s.setReports r).ports = s.ports := rfl
@[simp] theorem setReports_profiles (s : State) (r : List Entry) : (s.setReports r).profiles = s.profiles := rfl
@[simp] theorem setReports_queue (s : State) (r : List Entry) : (s.setReports r).queue = s.queue := rfl
@[simp] theorem setReports_nextNumber (s : State) (r : List Entry) : (s.setReports r).nextNumber = s.nextNumber := rfl
@[simp] theorem setReports_recheck (s : State) (r : List Entry) : (s.setReports r).recheck = s.recheck := rfl
@[simp] theorem setReports_banks (s : State) (r : List Entry) : (s.setReports r).banks = s.banks := rfl
@[simp] theorem setReports_engines (s : State) (r : List Entry) : (s.setReports r).engines = s.engines := rfl
@[simp] theorem setReports_results (s : State) (r : List Entry) : (s.setReports r).results = s.results := rfl
@[simp] theorem setReports_slots (s : State) (r : List Entry) : (s.setReports r).slots = s.slots := rfl
@[simp] theorem setReports_reports (s : State) (r : List Entry) : (s.setReports r).reports = r := rfl
@[simp] theorem setReports_passDue (s : State) (r : List Entry) : (s.setReports r).passDue = s.passDue := rfl
@[simp] theorem setReports_fetch (s : State) (r : List Entry) : (s.setReports r).fetch = s.fetch := rfl
@[simp] theorem setReports_choices (s : State) (r : List Entry) : (s.setReports r).choices = s.choices := rfl
@[simp] theorem setReports_pending (s : State) (r : List Entry) : (s.setReports r).pending = s.pending := rfl
@[simp] theorem setReports_port (s : State) (r : List Entry) (p' : PortId) : (s.setReports r).port p' = s.port p' := rfl
@[simp] theorem setReports_profile (s : State) (r : List Entry) (p' : PortId) : (s.setReports r).profile p' = s.profile p' := rfl
@[simp] theorem setReports_recheckOf (s : State) (r : List Entry) (p' : PortId) : (s.setReports r).recheckOf p' = s.recheckOf p' := rfl
@[simp] theorem setReports_bank (s : State) (r : List Entry) (b' : BankId) : (s.setReports r).bank b' = s.bank b' := rfl
@[simp] theorem setReports_engine (s : State) (r : List Entry) (e' : EngineId) : (s.setReports r).engine e' = s.engine e' := rfl
@[simp] theorem setReports_result (s : State) (r : List Entry) (p' : PortId) : (s.setReports r).result p' = s.result p' := rfl
@[simp] theorem setReports_slot (s : State) (r : List Entry) (t' : SlotId) : (s.setReports r).slot t' = s.slot t' := rfl

/-! ### duePass -/

@[simp] theorem duePass_resetLow (s : State) (b : Bool) : (s.duePass b).resetLow = s.resetLow := rfl
@[simp] theorem duePass_lastCause (s : State) (b : Bool) : (s.duePass b).lastCause = s.lastCause := rfl
@[simp] theorem duePass_receiver (s : State) (b : Bool) : (s.duePass b).receiver = s.receiver := rfl
@[simp] theorem duePass_inbox (s : State) (b : Bool) : (s.duePass b).inbox = s.inbox := rfl
@[simp] theorem duePass_overflow (s : State) (b : Bool) : (s.duePass b).overflow = s.overflow := rfl
@[simp] theorem duePass_sender (s : State) (b : Bool) : (s.duePass b).sender = s.sender := rfl
@[simp] theorem duePass_ports (s : State) (b : Bool) : (s.duePass b).ports = s.ports := rfl
@[simp] theorem duePass_profiles (s : State) (b : Bool) : (s.duePass b).profiles = s.profiles := rfl
@[simp] theorem duePass_queue (s : State) (b : Bool) : (s.duePass b).queue = s.queue := rfl
@[simp] theorem duePass_nextNumber (s : State) (b : Bool) : (s.duePass b).nextNumber = s.nextNumber := rfl
@[simp] theorem duePass_recheck (s : State) (b : Bool) : (s.duePass b).recheck = s.recheck := rfl
@[simp] theorem duePass_banks (s : State) (b : Bool) : (s.duePass b).banks = s.banks := rfl
@[simp] theorem duePass_engines (s : State) (b : Bool) : (s.duePass b).engines = s.engines := rfl
@[simp] theorem duePass_results (s : State) (b : Bool) : (s.duePass b).results = s.results := rfl
@[simp] theorem duePass_slots (s : State) (b : Bool) : (s.duePass b).slots = s.slots := rfl
@[simp] theorem duePass_reports (s : State) (b : Bool) : (s.duePass b).reports = s.reports := rfl
@[simp] theorem duePass_passDue (s : State) (b : Bool) : (s.duePass b).passDue = b := rfl
@[simp] theorem duePass_fetch (s : State) (b : Bool) : (s.duePass b).fetch = s.fetch := rfl
@[simp] theorem duePass_choices (s : State) (b : Bool) : (s.duePass b).choices = s.choices := rfl
@[simp] theorem duePass_pending (s : State) (b : Bool) : (s.duePass b).pending = s.pending := rfl
@[simp] theorem duePass_port (s : State) (b : Bool) (p' : PortId) : (s.duePass b).port p' = s.port p' := rfl
@[simp] theorem duePass_profile (s : State) (b : Bool) (p' : PortId) : (s.duePass b).profile p' = s.profile p' := rfl
@[simp] theorem duePass_recheckOf (s : State) (b : Bool) (p' : PortId) : (s.duePass b).recheckOf p' = s.recheckOf p' := rfl
@[simp] theorem duePass_bank (s : State) (b : Bool) (b' : BankId) : (s.duePass b).bank b' = s.bank b' := rfl
@[simp] theorem duePass_engine (s : State) (b : Bool) (e' : EngineId) : (s.duePass b).engine e' = s.engine e' := rfl
@[simp] theorem duePass_result (s : State) (b : Bool) (p' : PortId) : (s.duePass b).result p' = s.result p' := rfl
@[simp] theorem duePass_slot (s : State) (b : Bool) (t' : SlotId) : (s.duePass b).slot t' = s.slot t' := rfl

/-! ### setFetch -/

@[simp] theorem setFetch_resetLow (s : State) (x : Option Fetched) : (s.setFetch x).resetLow = s.resetLow := rfl
@[simp] theorem setFetch_lastCause (s : State) (x : Option Fetched) : (s.setFetch x).lastCause = s.lastCause := rfl
@[simp] theorem setFetch_receiver (s : State) (x : Option Fetched) : (s.setFetch x).receiver = s.receiver := rfl
@[simp] theorem setFetch_inbox (s : State) (x : Option Fetched) : (s.setFetch x).inbox = s.inbox := rfl
@[simp] theorem setFetch_overflow (s : State) (x : Option Fetched) : (s.setFetch x).overflow = s.overflow := rfl
@[simp] theorem setFetch_sender (s : State) (x : Option Fetched) : (s.setFetch x).sender = s.sender := rfl
@[simp] theorem setFetch_ports (s : State) (x : Option Fetched) : (s.setFetch x).ports = s.ports := rfl
@[simp] theorem setFetch_profiles (s : State) (x : Option Fetched) : (s.setFetch x).profiles = s.profiles := rfl
@[simp] theorem setFetch_queue (s : State) (x : Option Fetched) : (s.setFetch x).queue = s.queue := rfl
@[simp] theorem setFetch_nextNumber (s : State) (x : Option Fetched) : (s.setFetch x).nextNumber = s.nextNumber := rfl
@[simp] theorem setFetch_recheck (s : State) (x : Option Fetched) : (s.setFetch x).recheck = s.recheck := rfl
@[simp] theorem setFetch_banks (s : State) (x : Option Fetched) : (s.setFetch x).banks = s.banks := rfl
@[simp] theorem setFetch_engines (s : State) (x : Option Fetched) : (s.setFetch x).engines = s.engines := rfl
@[simp] theorem setFetch_results (s : State) (x : Option Fetched) : (s.setFetch x).results = s.results := rfl
@[simp] theorem setFetch_slots (s : State) (x : Option Fetched) : (s.setFetch x).slots = s.slots := rfl
@[simp] theorem setFetch_reports (s : State) (x : Option Fetched) : (s.setFetch x).reports = s.reports := rfl
@[simp] theorem setFetch_passDue (s : State) (x : Option Fetched) : (s.setFetch x).passDue = s.passDue := rfl
@[simp] theorem setFetch_fetch (s : State) (x : Option Fetched) : (s.setFetch x).fetch = x := rfl
@[simp] theorem setFetch_choices (s : State) (x : Option Fetched) : (s.setFetch x).choices = s.choices := rfl
@[simp] theorem setFetch_pending (s : State) (x : Option Fetched) : (s.setFetch x).pending = s.pending := rfl
@[simp] theorem setFetch_port (s : State) (x : Option Fetched) (p' : PortId) : (s.setFetch x).port p' = s.port p' := rfl
@[simp] theorem setFetch_profile (s : State) (x : Option Fetched) (p' : PortId) : (s.setFetch x).profile p' = s.profile p' := rfl
@[simp] theorem setFetch_recheckOf (s : State) (x : Option Fetched) (p' : PortId) : (s.setFetch x).recheckOf p' = s.recheckOf p' := rfl
@[simp] theorem setFetch_bank (s : State) (x : Option Fetched) (b' : BankId) : (s.setFetch x).bank b' = s.bank b' := rfl
@[simp] theorem setFetch_engine (s : State) (x : Option Fetched) (e' : EngineId) : (s.setFetch x).engine e' = s.engine e' := rfl
@[simp] theorem setFetch_result (s : State) (x : Option Fetched) (p' : PortId) : (s.setFetch x).result p' = s.result p' := rfl
@[simp] theorem setFetch_slot (s : State) (x : Option Fetched) (t' : SlotId) : (s.setFetch x).slot t' = s.slot t' := rfl

/-! ### setChoices -/

@[simp] theorem setChoices_resetLow (s : State) (n : Nat) : (s.setChoices n).resetLow = s.resetLow := rfl
@[simp] theorem setChoices_lastCause (s : State) (n : Nat) : (s.setChoices n).lastCause = s.lastCause := rfl
@[simp] theorem setChoices_receiver (s : State) (n : Nat) : (s.setChoices n).receiver = s.receiver := rfl
@[simp] theorem setChoices_inbox (s : State) (n : Nat) : (s.setChoices n).inbox = s.inbox := rfl
@[simp] theorem setChoices_overflow (s : State) (n : Nat) : (s.setChoices n).overflow = s.overflow := rfl
@[simp] theorem setChoices_sender (s : State) (n : Nat) : (s.setChoices n).sender = s.sender := rfl
@[simp] theorem setChoices_ports (s : State) (n : Nat) : (s.setChoices n).ports = s.ports := rfl
@[simp] theorem setChoices_profiles (s : State) (n : Nat) : (s.setChoices n).profiles = s.profiles := rfl
@[simp] theorem setChoices_queue (s : State) (n : Nat) : (s.setChoices n).queue = s.queue := rfl
@[simp] theorem setChoices_nextNumber (s : State) (n : Nat) : (s.setChoices n).nextNumber = s.nextNumber := rfl
@[simp] theorem setChoices_recheck (s : State) (n : Nat) : (s.setChoices n).recheck = s.recheck := rfl
@[simp] theorem setChoices_banks (s : State) (n : Nat) : (s.setChoices n).banks = s.banks := rfl
@[simp] theorem setChoices_engines (s : State) (n : Nat) : (s.setChoices n).engines = s.engines := rfl
@[simp] theorem setChoices_results (s : State) (n : Nat) : (s.setChoices n).results = s.results := rfl
@[simp] theorem setChoices_slots (s : State) (n : Nat) : (s.setChoices n).slots = s.slots := rfl
@[simp] theorem setChoices_reports (s : State) (n : Nat) : (s.setChoices n).reports = s.reports := rfl
@[simp] theorem setChoices_passDue (s : State) (n : Nat) : (s.setChoices n).passDue = s.passDue := rfl
@[simp] theorem setChoices_fetch (s : State) (n : Nat) : (s.setChoices n).fetch = s.fetch := rfl
@[simp] theorem setChoices_choices (s : State) (n : Nat) : (s.setChoices n).choices = n := rfl
@[simp] theorem setChoices_pending (s : State) (n : Nat) : (s.setChoices n).pending = s.pending := rfl
@[simp] theorem setChoices_port (s : State) (n : Nat) (p' : PortId) : (s.setChoices n).port p' = s.port p' := rfl
@[simp] theorem setChoices_profile (s : State) (n : Nat) (p' : PortId) : (s.setChoices n).profile p' = s.profile p' := rfl
@[simp] theorem setChoices_recheckOf (s : State) (n : Nat) (p' : PortId) : (s.setChoices n).recheckOf p' = s.recheckOf p' := rfl
@[simp] theorem setChoices_bank (s : State) (n : Nat) (b' : BankId) : (s.setChoices n).bank b' = s.bank b' := rfl
@[simp] theorem setChoices_engine (s : State) (n : Nat) (e' : EngineId) : (s.setChoices n).engine e' = s.engine e' := rfl
@[simp] theorem setChoices_result (s : State) (n : Nat) (p' : PortId) : (s.setChoices n).result p' = s.result p' := rfl
@[simp] theorem setChoices_slot (s : State) (n : Nat) (t' : SlotId) : (s.setChoices n).slot t' = s.slot t' := rfl

/-! ### setReceiver -/

@[simp] theorem setReceiver_resetLow (s : State) (r : Receiver) : (s.setReceiver r).resetLow = s.resetLow := rfl
@[simp] theorem setReceiver_lastCause (s : State) (r : Receiver) : (s.setReceiver r).lastCause = s.lastCause := rfl
@[simp] theorem setReceiver_receiver (s : State) (r : Receiver) : (s.setReceiver r).receiver = r := rfl
@[simp] theorem setReceiver_inbox (s : State) (r : Receiver) : (s.setReceiver r).inbox = s.inbox := rfl
@[simp] theorem setReceiver_overflow (s : State) (r : Receiver) : (s.setReceiver r).overflow = s.overflow := rfl
@[simp] theorem setReceiver_sender (s : State) (r : Receiver) : (s.setReceiver r).sender = s.sender := rfl
@[simp] theorem setReceiver_ports (s : State) (r : Receiver) : (s.setReceiver r).ports = s.ports := rfl
@[simp] theorem setReceiver_profiles (s : State) (r : Receiver) : (s.setReceiver r).profiles = s.profiles := rfl
@[simp] theorem setReceiver_queue (s : State) (r : Receiver) : (s.setReceiver r).queue = s.queue := rfl
@[simp] theorem setReceiver_nextNumber (s : State) (r : Receiver) : (s.setReceiver r).nextNumber = s.nextNumber := rfl
@[simp] theorem setReceiver_recheck (s : State) (r : Receiver) : (s.setReceiver r).recheck = s.recheck := rfl
@[simp] theorem setReceiver_banks (s : State) (r : Receiver) : (s.setReceiver r).banks = s.banks := rfl
@[simp] theorem setReceiver_engines (s : State) (r : Receiver) : (s.setReceiver r).engines = s.engines := rfl
@[simp] theorem setReceiver_results (s : State) (r : Receiver) : (s.setReceiver r).results = s.results := rfl
@[simp] theorem setReceiver_slots (s : State) (r : Receiver) : (s.setReceiver r).slots = s.slots := rfl
@[simp] theorem setReceiver_reports (s : State) (r : Receiver) : (s.setReceiver r).reports = s.reports := rfl
@[simp] theorem setReceiver_passDue (s : State) (r : Receiver) : (s.setReceiver r).passDue = s.passDue := rfl
@[simp] theorem setReceiver_fetch (s : State) (r : Receiver) : (s.setReceiver r).fetch = s.fetch := rfl
@[simp] theorem setReceiver_choices (s : State) (r : Receiver) : (s.setReceiver r).choices = s.choices := rfl
@[simp] theorem setReceiver_pending (s : State) (r : Receiver) : (s.setReceiver r).pending = s.pending := rfl
@[simp] theorem setReceiver_port (s : State) (r : Receiver) (p' : PortId) : (s.setReceiver r).port p' = s.port p' := rfl
@[simp] theorem setReceiver_profile (s : State) (r : Receiver) (p' : PortId) : (s.setReceiver r).profile p' = s.profile p' := rfl
@[simp] theorem setReceiver_recheckOf (s : State) (r : Receiver) (p' : PortId) : (s.setReceiver r).recheckOf p' = s.recheckOf p' := rfl
@[simp] theorem setReceiver_bank (s : State) (r : Receiver) (b' : BankId) : (s.setReceiver r).bank b' = s.bank b' := rfl
@[simp] theorem setReceiver_engine (s : State) (r : Receiver) (e' : EngineId) : (s.setReceiver r).engine e' = s.engine e' := rfl
@[simp] theorem setReceiver_result (s : State) (r : Receiver) (p' : PortId) : (s.setReceiver r).result p' = s.result p' := rfl
@[simp] theorem setReceiver_slot (s : State) (r : Receiver) (t' : SlotId) : (s.setReceiver r).slot t' = s.slot t' := rfl

/-! ### setInbox -/

@[simp] theorem setInbox_resetLow (s : State) (q : List Frame) : (s.setInbox q).resetLow = s.resetLow := rfl
@[simp] theorem setInbox_lastCause (s : State) (q : List Frame) : (s.setInbox q).lastCause = s.lastCause := rfl
@[simp] theorem setInbox_receiver (s : State) (q : List Frame) : (s.setInbox q).receiver = s.receiver := rfl
@[simp] theorem setInbox_inbox (s : State) (q : List Frame) : (s.setInbox q).inbox = q := rfl
@[simp] theorem setInbox_overflow (s : State) (q : List Frame) : (s.setInbox q).overflow = s.overflow := rfl
@[simp] theorem setInbox_sender (s : State) (q : List Frame) : (s.setInbox q).sender = s.sender := rfl
@[simp] theorem setInbox_ports (s : State) (q : List Frame) : (s.setInbox q).ports = s.ports := rfl
@[simp] theorem setInbox_profiles (s : State) (q : List Frame) : (s.setInbox q).profiles = s.profiles := rfl
@[simp] theorem setInbox_queue (s : State) (q : List Frame) : (s.setInbox q).queue = s.queue := rfl
@[simp] theorem setInbox_nextNumber (s : State) (q : List Frame) : (s.setInbox q).nextNumber = s.nextNumber := rfl
@[simp] theorem setInbox_recheck (s : State) (q : List Frame) : (s.setInbox q).recheck = s.recheck := rfl
@[simp] theorem setInbox_banks (s : State) (q : List Frame) : (s.setInbox q).banks = s.banks := rfl
@[simp] theorem setInbox_engines (s : State) (q : List Frame) : (s.setInbox q).engines = s.engines := rfl
@[simp] theorem setInbox_results (s : State) (q : List Frame) : (s.setInbox q).results = s.results := rfl
@[simp] theorem setInbox_slots (s : State) (q : List Frame) : (s.setInbox q).slots = s.slots := rfl
@[simp] theorem setInbox_reports (s : State) (q : List Frame) : (s.setInbox q).reports = s.reports := rfl
@[simp] theorem setInbox_passDue (s : State) (q : List Frame) : (s.setInbox q).passDue = s.passDue := rfl
@[simp] theorem setInbox_fetch (s : State) (q : List Frame) : (s.setInbox q).fetch = s.fetch := rfl
@[simp] theorem setInbox_choices (s : State) (q : List Frame) : (s.setInbox q).choices = s.choices := rfl
@[simp] theorem setInbox_pending (s : State) (q : List Frame) : (s.setInbox q).pending = s.pending := rfl
@[simp] theorem setInbox_port (s : State) (q : List Frame) (p' : PortId) : (s.setInbox q).port p' = s.port p' := rfl
@[simp] theorem setInbox_profile (s : State) (q : List Frame) (p' : PortId) : (s.setInbox q).profile p' = s.profile p' := rfl
@[simp] theorem setInbox_recheckOf (s : State) (q : List Frame) (p' : PortId) : (s.setInbox q).recheckOf p' = s.recheckOf p' := rfl
@[simp] theorem setInbox_bank (s : State) (q : List Frame) (b' : BankId) : (s.setInbox q).bank b' = s.bank b' := rfl
@[simp] theorem setInbox_engine (s : State) (q : List Frame) (e' : EngineId) : (s.setInbox q).engine e' = s.engine e' := rfl
@[simp] theorem setInbox_result (s : State) (q : List Frame) (p' : PortId) : (s.setInbox q).result p' = s.result p' := rfl
@[simp] theorem setInbox_slot (s : State) (q : List Frame) (t' : SlotId) : (s.setInbox q).slot t' = s.slot t' := rfl

/-! ### setOverflow -/

@[simp] theorem setOverflow_resetLow (s : State) (r : Option Reply) : (s.setOverflow r).resetLow = s.resetLow := rfl
@[simp] theorem setOverflow_lastCause (s : State) (r : Option Reply) : (s.setOverflow r).lastCause = s.lastCause := rfl
@[simp] theorem setOverflow_receiver (s : State) (r : Option Reply) : (s.setOverflow r).receiver = s.receiver := rfl
@[simp] theorem setOverflow_inbox (s : State) (r : Option Reply) : (s.setOverflow r).inbox = s.inbox := rfl
@[simp] theorem setOverflow_overflow (s : State) (r : Option Reply) : (s.setOverflow r).overflow = r := rfl
@[simp] theorem setOverflow_sender (s : State) (r : Option Reply) : (s.setOverflow r).sender = s.sender := rfl
@[simp] theorem setOverflow_ports (s : State) (r : Option Reply) : (s.setOverflow r).ports = s.ports := rfl
@[simp] theorem setOverflow_profiles (s : State) (r : Option Reply) : (s.setOverflow r).profiles = s.profiles := rfl
@[simp] theorem setOverflow_queue (s : State) (r : Option Reply) : (s.setOverflow r).queue = s.queue := rfl
@[simp] theorem setOverflow_nextNumber (s : State) (r : Option Reply) : (s.setOverflow r).nextNumber = s.nextNumber := rfl
@[simp] theorem setOverflow_recheck (s : State) (r : Option Reply) : (s.setOverflow r).recheck = s.recheck := rfl
@[simp] theorem setOverflow_banks (s : State) (r : Option Reply) : (s.setOverflow r).banks = s.banks := rfl
@[simp] theorem setOverflow_engines (s : State) (r : Option Reply) : (s.setOverflow r).engines = s.engines := rfl
@[simp] theorem setOverflow_results (s : State) (r : Option Reply) : (s.setOverflow r).results = s.results := rfl
@[simp] theorem setOverflow_slots (s : State) (r : Option Reply) : (s.setOverflow r).slots = s.slots := rfl
@[simp] theorem setOverflow_reports (s : State) (r : Option Reply) : (s.setOverflow r).reports = s.reports := rfl
@[simp] theorem setOverflow_passDue (s : State) (r : Option Reply) : (s.setOverflow r).passDue = s.passDue := rfl
@[simp] theorem setOverflow_fetch (s : State) (r : Option Reply) : (s.setOverflow r).fetch = s.fetch := rfl
@[simp] theorem setOverflow_choices (s : State) (r : Option Reply) : (s.setOverflow r).choices = s.choices := rfl
@[simp] theorem setOverflow_pending (s : State) (r : Option Reply) : (s.setOverflow r).pending = s.pending := rfl
@[simp] theorem setOverflow_port (s : State) (r : Option Reply) (p' : PortId) : (s.setOverflow r).port p' = s.port p' := rfl
@[simp] theorem setOverflow_profile (s : State) (r : Option Reply) (p' : PortId) : (s.setOverflow r).profile p' = s.profile p' := rfl
@[simp] theorem setOverflow_recheckOf (s : State) (r : Option Reply) (p' : PortId) : (s.setOverflow r).recheckOf p' = s.recheckOf p' := rfl
@[simp] theorem setOverflow_bank (s : State) (r : Option Reply) (b' : BankId) : (s.setOverflow r).bank b' = s.bank b' := rfl
@[simp] theorem setOverflow_engine (s : State) (r : Option Reply) (e' : EngineId) : (s.setOverflow r).engine e' = s.engine e' := rfl
@[simp] theorem setOverflow_result (s : State) (r : Option Reply) (p' : PortId) : (s.setOverflow r).result p' = s.result p' := rfl
@[simp] theorem setOverflow_slot (s : State) (r : Option Reply) (t' : SlotId) : (s.setOverflow r).slot t' = s.slot t' := rfl

/-! ### setSender -/

@[simp] theorem setSender_resetLow (s : State) (x : Sender) : (s.setSender x).resetLow = s.resetLow := rfl
@[simp] theorem setSender_lastCause (s : State) (x : Sender) : (s.setSender x).lastCause = s.lastCause := rfl
@[simp] theorem setSender_receiver (s : State) (x : Sender) : (s.setSender x).receiver = s.receiver := rfl
@[simp] theorem setSender_inbox (s : State) (x : Sender) : (s.setSender x).inbox = s.inbox := rfl
@[simp] theorem setSender_overflow (s : State) (x : Sender) : (s.setSender x).overflow = s.overflow := rfl
@[simp] theorem setSender_sender (s : State) (x : Sender) : (s.setSender x).sender = x := rfl
@[simp] theorem setSender_ports (s : State) (x : Sender) : (s.setSender x).ports = s.ports := rfl
@[simp] theorem setSender_profiles (s : State) (x : Sender) : (s.setSender x).profiles = s.profiles := rfl
@[simp] theorem setSender_queue (s : State) (x : Sender) : (s.setSender x).queue = s.queue := rfl
@[simp] theorem setSender_nextNumber (s : State) (x : Sender) : (s.setSender x).nextNumber = s.nextNumber := rfl
@[simp] theorem setSender_recheck (s : State) (x : Sender) : (s.setSender x).recheck = s.recheck := rfl
@[simp] theorem setSender_banks (s : State) (x : Sender) : (s.setSender x).banks = s.banks := rfl
@[simp] theorem setSender_engines (s : State) (x : Sender) : (s.setSender x).engines = s.engines := rfl
@[simp] theorem setSender_results (s : State) (x : Sender) : (s.setSender x).results = s.results := rfl
@[simp] theorem setSender_slots (s : State) (x : Sender) : (s.setSender x).slots = s.slots := rfl
@[simp] theorem setSender_reports (s : State) (x : Sender) : (s.setSender x).reports = s.reports := rfl
@[simp] theorem setSender_passDue (s : State) (x : Sender) : (s.setSender x).passDue = s.passDue := rfl
@[simp] theorem setSender_fetch (s : State) (x : Sender) : (s.setSender x).fetch = s.fetch := rfl
@[simp] theorem setSender_choices (s : State) (x : Sender) : (s.setSender x).choices = s.choices := rfl
@[simp] theorem setSender_pending (s : State) (x : Sender) : (s.setSender x).pending = s.pending := rfl
@[simp] theorem setSender_port (s : State) (x : Sender) (p' : PortId) : (s.setSender x).port p' = s.port p' := rfl
@[simp] theorem setSender_profile (s : State) (x : Sender) (p' : PortId) : (s.setSender x).profile p' = s.profile p' := rfl
@[simp] theorem setSender_recheckOf (s : State) (x : Sender) (p' : PortId) : (s.setSender x).recheckOf p' = s.recheckOf p' := rfl
@[simp] theorem setSender_bank (s : State) (x : Sender) (b' : BankId) : (s.setSender x).bank b' = s.bank b' := rfl
@[simp] theorem setSender_engine (s : State) (x : Sender) (e' : EngineId) : (s.setSender x).engine e' = s.engine e' := rfl
@[simp] theorem setSender_result (s : State) (x : Sender) (p' : PortId) : (s.setSender x).result p' = s.result p' := rfl
@[simp] theorem setSender_slot (s : State) (x : Sender) (t' : SlotId) : (s.setSender x).slot t' = s.slot t' := rfl

/-! ### setPending -/

@[simp] theorem setPending_resetLow (s : State) (q : List Instr) : (s.setPending q).resetLow = s.resetLow := rfl
@[simp] theorem setPending_lastCause (s : State) (q : List Instr) : (s.setPending q).lastCause = s.lastCause := rfl
@[simp] theorem setPending_receiver (s : State) (q : List Instr) : (s.setPending q).receiver = s.receiver := rfl
@[simp] theorem setPending_inbox (s : State) (q : List Instr) : (s.setPending q).inbox = s.inbox := rfl
@[simp] theorem setPending_overflow (s : State) (q : List Instr) : (s.setPending q).overflow = s.overflow := rfl
@[simp] theorem setPending_sender (s : State) (q : List Instr) : (s.setPending q).sender = s.sender := rfl
@[simp] theorem setPending_ports (s : State) (q : List Instr) : (s.setPending q).ports = s.ports := rfl
@[simp] theorem setPending_profiles (s : State) (q : List Instr) : (s.setPending q).profiles = s.profiles := rfl
@[simp] theorem setPending_queue (s : State) (q : List Instr) : (s.setPending q).queue = s.queue := rfl
@[simp] theorem setPending_nextNumber (s : State) (q : List Instr) : (s.setPending q).nextNumber = s.nextNumber := rfl
@[simp] theorem setPending_recheck (s : State) (q : List Instr) : (s.setPending q).recheck = s.recheck := rfl
@[simp] theorem setPending_banks (s : State) (q : List Instr) : (s.setPending q).banks = s.banks := rfl
@[simp] theorem setPending_engines (s : State) (q : List Instr) : (s.setPending q).engines = s.engines := rfl
@[simp] theorem setPending_results (s : State) (q : List Instr) : (s.setPending q).results = s.results := rfl
@[simp] theorem setPending_slots (s : State) (q : List Instr) : (s.setPending q).slots = s.slots := rfl
@[simp] theorem setPending_reports (s : State) (q : List Instr) : (s.setPending q).reports = s.reports := rfl
@[simp] theorem setPending_passDue (s : State) (q : List Instr) : (s.setPending q).passDue = s.passDue := rfl
@[simp] theorem setPending_fetch (s : State) (q : List Instr) : (s.setPending q).fetch = s.fetch := rfl
@[simp] theorem setPending_choices (s : State) (q : List Instr) : (s.setPending q).choices = s.choices := rfl
@[simp] theorem setPending_pending (s : State) (q : List Instr) : (s.setPending q).pending = q := rfl
@[simp] theorem setPending_port (s : State) (q : List Instr) (p' : PortId) : (s.setPending q).port p' = s.port p' := rfl
@[simp] theorem setPending_profile (s : State) (q : List Instr) (p' : PortId) : (s.setPending q).profile p' = s.profile p' := rfl
@[simp] theorem setPending_recheckOf (s : State) (q : List Instr) (p' : PortId) : (s.setPending q).recheckOf p' = s.recheckOf p' := rfl
@[simp] theorem setPending_bank (s : State) (q : List Instr) (b' : BankId) : (s.setPending q).bank b' = s.bank b' := rfl
@[simp] theorem setPending_engine (s : State) (q : List Instr) (e' : EngineId) : (s.setPending q).engine e' = s.engine e' := rfl
@[simp] theorem setPending_result (s : State) (q : List Instr) (p' : PortId) : (s.setPending q).result p' = s.result p' := rfl
@[simp] theorem setPending_slot (s : State) (q : List Instr) (t' : SlotId) : (s.setPending q).slot t' = s.slot t' := rfl

/-! ### apart -/

@[simp] theorem apart_resetLow (s : State) (f : State → State) : (s.apart f).resetLow = (f (s.setPending [])).resetLow := rfl
@[simp] theorem apart_lastCause (s : State) (f : State → State) : (s.apart f).lastCause = (f (s.setPending [])).lastCause := rfl
@[simp] theorem apart_receiver (s : State) (f : State → State) : (s.apart f).receiver = (f (s.setPending [])).receiver := rfl
@[simp] theorem apart_inbox (s : State) (f : State → State) : (s.apart f).inbox = (f (s.setPending [])).inbox := rfl
@[simp] theorem apart_overflow (s : State) (f : State → State) : (s.apart f).overflow = (f (s.setPending [])).overflow := rfl
@[simp] theorem apart_sender (s : State) (f : State → State) : (s.apart f).sender = (f (s.setPending [])).sender := rfl
@[simp] theorem apart_ports (s : State) (f : State → State) : (s.apart f).ports = (f (s.setPending [])).ports := rfl
@[simp] theorem apart_profiles (s : State) (f : State → State) : (s.apart f).profiles = (f (s.setPending [])).profiles := rfl
@[simp] theorem apart_queue (s : State) (f : State → State) : (s.apart f).queue = (f (s.setPending [])).queue := rfl
@[simp] theorem apart_nextNumber (s : State) (f : State → State) : (s.apart f).nextNumber = (f (s.setPending [])).nextNumber := rfl
@[simp] theorem apart_recheck (s : State) (f : State → State) : (s.apart f).recheck = (f (s.setPending [])).recheck := rfl
@[simp] theorem apart_banks (s : State) (f : State → State) : (s.apart f).banks = (f (s.setPending [])).banks := rfl
@[simp] theorem apart_engines (s : State) (f : State → State) : (s.apart f).engines = (f (s.setPending [])).engines := rfl
@[simp] theorem apart_results (s : State) (f : State → State) : (s.apart f).results = (f (s.setPending [])).results := rfl
@[simp] theorem apart_slots (s : State) (f : State → State) : (s.apart f).slots = (f (s.setPending [])).slots := rfl
@[simp] theorem apart_reports (s : State) (f : State → State) : (s.apart f).reports = (f (s.setPending [])).reports := rfl
@[simp] theorem apart_passDue (s : State) (f : State → State) : (s.apart f).passDue = (f (s.setPending [])).passDue := rfl
@[simp] theorem apart_fetch (s : State) (f : State → State) : (s.apart f).fetch = (f (s.setPending [])).fetch := rfl
@[simp] theorem apart_choices (s : State) (f : State → State) : (s.apart f).choices = (f (s.setPending [])).choices := rfl
@[simp] theorem apart_pending (s : State) (f : State → State) : (s.apart f).pending = s.pending := rfl
@[simp] theorem apart_port (s : State) (f : State → State) (p : PortId) :
    (s.apart f).port p = (f (s.setPending [])).port p := rfl
@[simp] theorem apart_profile (s : State) (f : State → State) (p : PortId) :
    (s.apart f).profile p = (f (s.setPending [])).profile p := rfl
@[simp] theorem apart_recheckOf (s : State) (f : State → State) (p : PortId) :
    (s.apart f).recheckOf p = (f (s.setPending [])).recheckOf p := rfl
@[simp] theorem apart_bank (s : State) (f : State → State) (b : BankId) :
    (s.apart f).bank b = (f (s.setPending [])).bank b := rfl
@[simp] theorem apart_engine (s : State) (f : State → State) (e : EngineId) :
    (s.apart f).engine e = (f (s.setPending [])).engine e := rfl
@[simp] theorem apart_result (s : State) (f : State → State) (p : PortId) :
    (s.apart f).result p = (f (s.setPending [])).result p := rfl
@[simp] theorem apart_slot (s : State) (f : State → State) (t : SlotId) :
    (s.apart f).slot t = (f (s.setPending [])).slot t := rfl

end Sys2Proof.Machine.State
end

