-- ==== Sys2Proof/Laws/Reads.lean ====
section
/-! SUPPORT. Reading back an item after a write: the item written holds the new value, every other item its old one. -/

namespace Sys2Proof.Machine.State

/-- `setPort` gives the item it names its new value. -/
@[simp] theorem setPort_port_self (s : State) (p : PortId) (q : Port) : (s.setPort p q).port p = q := by
  simp [port, setPort]

/-- `setPort` leaves every other item. -/
theorem setPort_port_ne (s : State) (p : PortId) (q : Port) (p' : PortId) (h : p' ≠ p) :
    (s.setPort p q).port p' = s.port p' := by
  have k : p.val ≠ p'.val := fun e => h (Fin.ext e.symm)
  simp [port, setPort, Vector.getElem_set_ne, k]

/-- `modPort` gives the item it names its new value. -/
@[simp] theorem modPort_port_self (s : State) (p : PortId) (f : Port → Port) : (s.modPort p f).port p = f (s.port p) := by
  simp [port, modPort, modPort, setPort]

/-- `modPort` leaves every other item. -/
theorem modPort_port_ne (s : State) (p : PortId) (f : Port → Port) (p' : PortId) (h : p' ≠ p) :
    (s.modPort p f).port p' = s.port p' := by
  have k : p.val ≠ p'.val := fun e => h (Fin.ext e.symm)
  simp [port, modPort, modPort, setPort, Vector.getElem_set_ne, k]

/-- `setProfile` gives the item it names its new value. -/
@[simp] theorem setProfile_profile_self (s : State) (p : PortId) (r : Profile) : (s.setProfile p r).profile p = r := by
  simp [profile, setProfile]

/-- `setProfile` leaves every other item. -/
theorem setProfile_profile_ne (s : State) (p : PortId) (r : Profile) (p' : PortId) (h : p' ≠ p) :
    (s.setProfile p r).profile p' = s.profile p' := by
  have k : p.val ≠ p'.val := fun e => h (Fin.ext e.symm)
  simp [profile, setProfile, Vector.getElem_set_ne, k]

/-- `setRecheck` gives the item it names its new value. -/
@[simp] theorem setRecheck_recheckOf_self (s : State) (p : PortId) (t : Option Nat) : (s.setRecheck p t).recheckOf p = t := by
  simp [recheckOf, setRecheck]

/-- `setRecheck` leaves every other item. -/
theorem setRecheck_recheckOf_ne (s : State) (p : PortId) (t : Option Nat) (p' : PortId) (h : p' ≠ p) :
    (s.setRecheck p t).recheckOf p' = s.recheckOf p' := by
  have k : p.val ≠ p'.val := fun e => h (Fin.ext e.symm)
  simp [recheckOf, setRecheck, Vector.getElem_set_ne, k]

/-- `setBank` gives the item it names its new value. -/
@[simp] theorem setBank_bank_self (s : State) (b : BankId) (u : Option BankUse) : (s.setBank b u).bank b = u := by
  simp [bank, setBank]

/-- `setBank` leaves every other item. -/
theorem setBank_bank_ne (s : State) (b : BankId) (u : Option BankUse) (b' : BankId) (h : b' ≠ b) :
    (s.setBank b u).bank b' = s.bank b' := by
  have k : b.val ≠ b'.val := fun e => h (Fin.ext e.symm)
  simp [bank, setBank, Vector.getElem_set_ne, k]

/-- `setEngine` gives the item it names its new value. -/
@[simp] theorem setEngine_engine_self (s : State) (e : EngineId) (x : Engine) : (s.setEngine e x).engine e = x := by
  simp [engine, setEngine]

/-- `setEngine` leaves every other item. -/
theorem setEngine_engine_ne (s : State) (e : EngineId) (x : Engine) (e' : EngineId) (h : e' ≠ e) :
    (s.setEngine e x).engine e' = s.engine e' := by
  have k : e.val ≠ e'.val := fun e => h (Fin.ext e.symm)
  simp [engine, setEngine, Vector.getElem_set_ne, k]

/-- `setResult` gives the item it names its new value. -/
@[simp] theorem setResult_result_self (s : State) (p : PortId) (r : Option ResultRecord) : (s.setResult p r).result p = r := by
  simp [result, setResult]

/-- `setResult` leaves every other item. -/
theorem setResult_result_ne (s : State) (p : PortId) (r : Option ResultRecord) (p' : PortId) (h : p' ≠ p) :
    (s.setResult p r).result p' = s.result p' := by
  have k : p.val ≠ p'.val := fun e => h (Fin.ext e.symm)
  simp [result, setResult, Vector.getElem_set_ne, k]

/-- `setSlot` gives the item it names its new value. -/
@[simp] theorem setSlot_slot_self (s : State) (t : SlotId) (x : Slot) : (s.setSlot t x).slot t = x := by
  simp [slot, setSlot]

/-- `setSlot` leaves every other item. -/
theorem setSlot_slot_ne (s : State) (t : SlotId) (x : Slot) (t' : SlotId) (h : t' ≠ t) :
    (s.setSlot t x).slot t' = s.slot t' := by
  have k : t.val ≠ t'.val := fun e => h (Fin.ext e.symm)
  simp [slot, setSlot, Vector.getElem_set_ne, k]

/-- Writing a port's own record back changes nothing. -/
@[simp] theorem setPort_back (s : State) (p : PortId) : s.setPort p (s.port p) = s := by
  simp [setPort, port]

/-- Two states with the same record at every port have the same ports. -/
theorem ports_ext {s t : State} (h : ∀ p, s.port p = t.port p) : s.ports = t.ports := by
  apply Vector.ext
  intro i hi
  exact h ⟨i, hi⟩

end Sys2Proof.Machine.State
end

