-- ==== Sys2Proof/Laws/Frames.lean ====
section
/-! SUPPORT. What each shared operation leaves: one lemma per operation and field it does not touch. -/

namespace Sys2Proof.Machine.State

/-- What every single grant keeps, a grant pass keeps: the induction of R84, once. -/
theorem passFuel_rec {P : State → Prop}
    (h : ∀ s r e, s.choice = some r → s.idleEngine (bankOf r.port) = some e → P s → P (s.grant r e)) :
    ∀ n s, P s → P (s.passFuel n) := by
  intro n
  induction n with
  | zero => exact fun s hs => hs
  | succ n ih =>
    intro s hs
    unfold passFuel
    cases hc : s.choice with
    | none => simpa [passOnce, hc] using hs
    | some r =>
      cases he : s.idleEngine (bankOf r.port) with
      | none => simpa [passOnce, hc, he] using hs
      | some e => simpa [passOnce, hc, he] using ih _ (h s r e hc he hs)

/-! ### flagAndReport -/

@[simp] theorem flagAndReport_resetLow (s : State) (p : PortId) (ev : FlagEvent) : (s.flagAndReport p ev).resetLow = s.resetLow := by
  simp only [flagAndReport]; split <;> rfl
@[simp] theorem flagAndReport_lastCause (s : State) (p : PortId) (ev : FlagEvent) : (s.flagAndReport p ev).lastCause = s.lastCause := by
  simp only [flagAndReport]; split <;> rfl
@[simp] theorem flagAndReport_receiver (s : State) (p : PortId) (ev : FlagEvent) : (s.flagAndReport p ev).receiver = s.receiver := by
  simp only [flagAndReport]; split <;> rfl
@[simp] theorem flagAndReport_inbox (s : State) (p : PortId) (ev : FlagEvent) : (s.flagAndReport p ev).inbox = s.inbox := by
  simp only [flagAndReport]; split <;> rfl
@[simp] theorem flagAndReport_overflow (s : State) (p : PortId) (ev : FlagEvent) : (s.flagAndReport p ev).overflow = s.overflow := by
  simp only [flagAndReport]; split <;> rfl
@[simp] theorem flagAndReport_sender (s : State) (p : PortId) (ev : FlagEvent) : (s.flagAndReport p ev).sender = s.sender := by
  simp only [flagAndReport]; split <;> rfl
@[simp] theorem flagAndReport_profiles (s : State) (p : PortId) (ev : FlagEvent) : (s.flagAndReport p ev).profiles = s.profiles := by
  simp only [flagAndReport]; split <;> rfl
@[simp] theorem flagAndReport_queue (s : State) (p : PortId) (ev : FlagEvent) : (s.flagAndReport p ev).queue = s.queue := by
  simp only [flagAndReport]; split <;> rfl
@[simp] theorem flagAndReport_nextNumber (s : State) (p : PortId) (ev : FlagEvent) : (s.flagAndReport p ev).nextNumber = s.nextNumber := by
  simp only [flagAndReport]; split <;> rfl
@[simp] theorem flagAndReport_recheck (s : State) (p : PortId) (ev : FlagEvent) : (s.flagAndReport p ev).recheck = s.recheck := by
  simp only [flagAndReport]; split <;> rfl
@[simp] theorem flagAndReport_banks (s : State) (p : PortId) (ev : FlagEvent) : (s.flagAndReport p ev).banks = s.banks := by
  simp only [flagAndReport]; split <;> rfl
@[simp] theorem flagAndReport_engines (s : State) (p : PortId) (ev : FlagEvent) : (s.flagAndReport p ev).engines = s.engines := by
  simp only [flagAndReport]; split <;> rfl
@[simp] theorem flagAndReport_results (s : State) (p : PortId) (ev : FlagEvent) : (s.flagAndReport p ev).results = s.results := by
  simp only [flagAndReport]; split <;> rfl
@[simp] theorem flagAndReport_slots (s : State) (p : PortId) (ev : FlagEvent) : (s.flagAndReport p ev).slots = s.slots := by
  simp only [flagAndReport]; split <;> rfl
@[simp] theorem flagAndReport_passDue (s : State) (p : PortId) (ev : FlagEvent) : (s.flagAndReport p ev).passDue = s.passDue := by
  simp only [flagAndReport]; split <;> rfl
@[simp] theorem flagAndReport_fetch (s : State) (p : PortId) (ev : FlagEvent) : (s.flagAndReport p ev).fetch = s.fetch := by
  simp only [flagAndReport]; split <;> rfl
@[simp] theorem flagAndReport_choices (s : State) (p : PortId) (ev : FlagEvent) : (s.flagAndReport p ev).choices = s.choices := by
  simp only [flagAndReport]; split <;> rfl
@[simp] theorem flagAndReport_pending (s : State) (p : PortId) (ev : FlagEvent) : (s.flagAndReport p ev).pending = s.pending := by
  simp only [flagAndReport]; split <;> rfl

/-! ### meetFetch -/

@[simp] theorem meetFetch_resetLow (s : State) : s.meetFetch.resetLow = s.resetLow := by
  simp only [meetFetch, fetchNow, takeReports]; split
  · split <;> rfl
  · rfl
@[simp] theorem meetFetch_lastCause (s : State) : s.meetFetch.lastCause = s.lastCause := by
  simp only [meetFetch, fetchNow, takeReports]; split
  · split <;> rfl
  · rfl
@[simp] theorem meetFetch_receiver (s : State) : s.meetFetch.receiver = s.receiver := by
  simp only [meetFetch, fetchNow, takeReports]; split
  · split <;> rfl
  · rfl
@[simp] theorem meetFetch_inbox (s : State) : s.meetFetch.inbox = s.inbox := by
  simp only [meetFetch, fetchNow, takeReports]; split
  · split <;> rfl
  · rfl
@[simp] theorem meetFetch_overflow (s : State) : s.meetFetch.overflow = s.overflow := by
  simp only [meetFetch, fetchNow, takeReports]; split
  · split <;> rfl
  · rfl
@[simp] theorem meetFetch_sender (s : State) : s.meetFetch.sender = s.sender := by
  simp only [meetFetch, fetchNow, takeReports]; split
  · split <;> rfl
  · rfl
@[simp] theorem meetFetch_ports (s : State) : s.meetFetch.ports = s.ports := by
  simp only [meetFetch, fetchNow, takeReports]; split
  · split <;> rfl
  · rfl
@[simp] theorem meetFetch_profiles (s : State) : s.meetFetch.profiles = s.profiles := by
  simp only [meetFetch, fetchNow, takeReports]; split
  · split <;> rfl
  · rfl
@[simp] theorem meetFetch_queue (s : State) : s.meetFetch.queue = s.queue := by
  simp only [meetFetch, fetchNow, takeReports]; split
  · split <;> rfl
  · rfl
@[simp] theorem meetFetch_nextNumber (s : State) : s.meetFetch.nextNumber = s.nextNumber := by
  simp only [meetFetch, fetchNow, takeReports]; split
  · split <;> rfl
  · rfl
@[simp] theorem meetFetch_recheck (s : State) : s.meetFetch.recheck = s.recheck := by
  simp only [meetFetch, fetchNow, takeReports]; split
  · split <;> rfl
  · rfl
@[simp] theorem meetFetch_banks (s : State) : s.meetFetch.banks = s.banks := by
  simp only [meetFetch, fetchNow, takeReports]; split
  · split <;> rfl
  · rfl
@[simp] theorem meetFetch_engines (s : State) : s.meetFetch.engines = s.engines := by
  simp only [meetFetch, fetchNow, takeReports]; split
  · split <;> rfl
  · rfl
@[simp] theorem meetFetch_results (s : State) : s.meetFetch.results = s.results := by
  simp only [meetFetch, fetchNow, takeReports]; split
  · split <;> rfl
  · rfl
@[simp] theorem meetFetch_slots (s : State) : s.meetFetch.slots = s.slots := by
  simp only [meetFetch, fetchNow, takeReports]; split
  · split <;> rfl
  · rfl
@[simp] theorem meetFetch_passDue (s : State) : s.meetFetch.passDue = s.passDue := by
  simp only [meetFetch, fetchNow, takeReports]; split
  · split <;> rfl
  · rfl
@[simp] theorem meetFetch_pending (s : State) : s.meetFetch.pending = s.pending := by
  simp only [meetFetch, fetchNow, takeReports]; split
  · split <;> rfl
  · rfl

/-! ### holdNotice -/

@[simp] theorem holdNotice_resetLow (s : State) (p : PortId) (n : Nat) (k : Option EventKind) : (s.holdNotice p n k).resetLow = s.resetLow := by
  simp only [holdNotice]; split <;> simp
@[simp] theorem holdNotice_lastCause (s : State) (p : PortId) (n : Nat) (k : Option EventKind) : (s.holdNotice p n k).lastCause = s.lastCause := by
  simp only [holdNotice]; split <;> simp
@[simp] theorem holdNotice_receiver (s : State) (p : PortId) (n : Nat) (k : Option EventKind) : (s.holdNotice p n k).receiver = s.receiver := by
  simp only [holdNotice]; split <;> simp
@[simp] theorem holdNotice_inbox (s : State) (p : PortId) (n : Nat) (k : Option EventKind) : (s.holdNotice p n k).inbox = s.inbox := by
  simp only [holdNotice]; split <;> simp
@[simp] theorem holdNotice_overflow (s : State) (p : PortId) (n : Nat) (k : Option EventKind) : (s.holdNotice p n k).overflow = s.overflow := by
  simp only [holdNotice]; split <;> simp
@[simp] theorem holdNotice_sender (s : State) (p : PortId) (n : Nat) (k : Option EventKind) : (s.holdNotice p n k).sender = s.sender := by
  simp only [holdNotice]; split <;> simp
@[simp] theorem holdNotice_ports (s : State) (p : PortId) (n : Nat) (k : Option EventKind) : (s.holdNotice p n k).ports = s.ports := by
  simp only [holdNotice]; split <;> simp
@[simp] theorem holdNotice_profiles (s : State) (p : PortId) (n : Nat) (k : Option EventKind) : (s.holdNotice p n k).profiles = s.profiles := by
  simp only [holdNotice]; split <;> simp
@[simp] theorem holdNotice_queue (s : State) (p : PortId) (n : Nat) (k : Option EventKind) : (s.holdNotice p n k).queue = s.queue := by
  simp only [holdNotice]; split <;> simp
@[simp] theorem holdNotice_nextNumber (s : State) (p : PortId) (n : Nat) (k : Option EventKind) : (s.holdNotice p n k).nextNumber = s.nextNumber := by
  simp only [holdNotice]; split <;> simp
@[simp] theorem holdNotice_recheck (s : State) (p : PortId) (n : Nat) (k : Option EventKind) : (s.holdNotice p n k).recheck = s.recheck := by
  simp only [holdNotice]; split <;> simp
@[simp] theorem holdNotice_banks (s : State) (p : PortId) (n : Nat) (k : Option EventKind) : (s.holdNotice p n k).banks = s.banks := by
  simp only [holdNotice]; split <;> simp
@[simp] theorem holdNotice_engines (s : State) (p : PortId) (n : Nat) (k : Option EventKind) : (s.holdNotice p n k).engines = s.engines := by
  simp only [holdNotice]; split <;> simp
@[simp] theorem holdNotice_results (s : State) (p : PortId) (n : Nat) (k : Option EventKind) : (s.holdNotice p n k).results = s.results := by
  simp only [holdNotice]; split <;> simp
@[simp] theorem holdNotice_slots (s : State) (p : PortId) (n : Nat) (k : Option EventKind) : (s.holdNotice p n k).slots = s.slots := by
  simp only [holdNotice]; split <;> simp
@[simp] theorem holdNotice_passDue (s : State) (p : PortId) (n : Nat) (k : Option EventKind) : (s.holdNotice p n k).passDue = s.passDue := by
  simp only [holdNotice]; split <;> simp
@[simp] theorem holdNotice_pending (s : State) (p : PortId) (n : Nat) (k : Option EventKind) : (s.holdNotice p n k).pending = s.pending := by
  simp only [holdNotice]; split <;> simp

/-! ### completeRecord -/

@[simp] theorem completeRecord_resetLow (s : State) (r : TestRecord) (x : TestOutcome) (q : Quad PairRecord) : (s.completeRecord r x q).resetLow = s.resetLow := by
  simp [completeRecord]
@[simp] theorem completeRecord_lastCause (s : State) (r : TestRecord) (x : TestOutcome) (q : Quad PairRecord) : (s.completeRecord r x q).lastCause = s.lastCause := by
  simp [completeRecord]
@[simp] theorem completeRecord_receiver (s : State) (r : TestRecord) (x : TestOutcome) (q : Quad PairRecord) : (s.completeRecord r x q).receiver = s.receiver := by
  simp [completeRecord]
@[simp] theorem completeRecord_inbox (s : State) (r : TestRecord) (x : TestOutcome) (q : Quad PairRecord) : (s.completeRecord r x q).inbox = s.inbox := by
  simp [completeRecord]
@[simp] theorem completeRecord_overflow (s : State) (r : TestRecord) (x : TestOutcome) (q : Quad PairRecord) : (s.completeRecord r x q).overflow = s.overflow := by
  simp [completeRecord]
@[simp] theorem completeRecord_sender (s : State) (r : TestRecord) (x : TestOutcome) (q : Quad PairRecord) : (s.completeRecord r x q).sender = s.sender := by
  simp [completeRecord]
@[simp] theorem completeRecord_profiles (s : State) (r : TestRecord) (x : TestOutcome) (q : Quad PairRecord) : (s.completeRecord r x q).profiles = s.profiles := by
  simp [completeRecord]
@[simp] theorem completeRecord_nextNumber (s : State) (r : TestRecord) (x : TestOutcome) (q : Quad PairRecord) : (s.completeRecord r x q).nextNumber = s.nextNumber := by
  simp [completeRecord]
@[simp] theorem completeRecord_recheck (s : State) (r : TestRecord) (x : TestOutcome) (q : Quad PairRecord) : (s.completeRecord r x q).recheck = s.recheck := by
  simp [completeRecord]
@[simp] theorem completeRecord_banks (s : State) (r : TestRecord) (x : TestOutcome) (q : Quad PairRecord) : (s.completeRecord r x q).banks = s.banks := by
  simp [completeRecord]
@[simp] theorem completeRecord_engines (s : State) (r : TestRecord) (x : TestOutcome) (q : Quad PairRecord) : (s.completeRecord r x q).engines = s.engines := by
  simp [completeRecord]
@[simp] theorem completeRecord_results (s : State) (r : TestRecord) (x : TestOutcome) (q : Quad PairRecord) : (s.completeRecord r x q).results = s.results := by
  simp [completeRecord]
@[simp] theorem completeRecord_slots (s : State) (r : TestRecord) (x : TestOutcome) (q : Quad PairRecord) : (s.completeRecord r x q).slots = s.slots := by
  simp [completeRecord]
@[simp] theorem completeRecord_passDue (s : State) (r : TestRecord) (x : TestOutcome) (q : Quad PairRecord) : (s.completeRecord r x q).passDue = s.passDue := by
  simp [completeRecord]
@[simp] theorem completeRecord_fetch (s : State) (r : TestRecord) (x : TestOutcome) (q : Quad PairRecord) : (s.completeRecord r x q).fetch = s.fetch := by
  simp [completeRecord]
@[simp] theorem completeRecord_choices (s : State) (r : TestRecord) (x : TestOutcome) (q : Quad PairRecord) : (s.completeRecord r x q).choices = s.choices := by
  simp [completeRecord]
@[simp] theorem completeRecord_pending (s : State) (r : TestRecord) (x : TestOutcome) (q : Quad PairRecord) : (s.completeRecord r x q).pending = s.pending := by
  simp [completeRecord]

/-! ### merge -/

@[simp] theorem merge_resetLow (s : State) (r : TestRecord) (y : Nat) : (s.merge r y).resetLow = s.resetLow := by
  simp only [merge]; split <;> rfl
@[simp] theorem merge_lastCause (s : State) (r : TestRecord) (y : Nat) : (s.merge r y).lastCause = s.lastCause := by
  simp only [merge]; split <;> rfl
@[simp] theorem merge_receiver (s : State) (r : TestRecord) (y : Nat) : (s.merge r y).receiver = s.receiver := by
  simp only [merge]; split <;> rfl
@[simp] theorem merge_inbox (s : State) (r : TestRecord) (y : Nat) : (s.merge r y).inbox = s.inbox := by
  simp only [merge]; split <;> rfl
@[simp] theorem merge_overflow (s : State) (r : TestRecord) (y : Nat) : (s.merge r y).overflow = s.overflow := by
  simp only [merge]; split <;> rfl
@[simp] theorem merge_sender (s : State) (r : TestRecord) (y : Nat) : (s.merge r y).sender = s.sender := by
  simp only [merge]; split <;> rfl
@[simp] theorem merge_ports (s : State) (r : TestRecord) (y : Nat) : (s.merge r y).ports = s.ports := by
  simp only [merge]; split <;> rfl
@[simp] theorem merge_profiles (s : State) (r : TestRecord) (y : Nat) : (s.merge r y).profiles = s.profiles := by
  simp only [merge]; split <;> rfl
@[simp] theorem merge_nextNumber (s : State) (r : TestRecord) (y : Nat) : (s.merge r y).nextNumber = s.nextNumber := by
  simp only [merge]; split <;> rfl
@[simp] theorem merge_recheck (s : State) (r : TestRecord) (y : Nat) : (s.merge r y).recheck = s.recheck := by
  simp only [merge]; split <;> rfl
@[simp] theorem merge_banks (s : State) (r : TestRecord) (y : Nat) : (s.merge r y).banks = s.banks := by
  simp only [merge]; split <;> rfl
@[simp] theorem merge_engines (s : State) (r : TestRecord) (y : Nat) : (s.merge r y).engines = s.engines := by
  simp only [merge]; split <;> rfl
@[simp] theorem merge_results (s : State) (r : TestRecord) (y : Nat) : (s.merge r y).results = s.results := by
  simp only [merge]; split <;> rfl
@[simp] theorem merge_slots (s : State) (r : TestRecord) (y : Nat) : (s.merge r y).slots = s.slots := by
  simp only [merge]; split <;> rfl
@[simp] theorem merge_reports (s : State) (r : TestRecord) (y : Nat) : (s.merge r y).reports = s.reports := by
  simp only [merge]; split <;> rfl
@[simp] theorem merge_fetch (s : State) (r : TestRecord) (y : Nat) : (s.merge r y).fetch = s.fetch := by
  simp only [merge]; split <;> rfl
@[simp] theorem merge_choices (s : State) (r : TestRecord) (y : Nat) : (s.merge r y).choices = s.choices := by
  simp only [merge]; split <;> rfl
@[simp] theorem merge_pending (s : State) (r : TestRecord) (y : Nat) : (s.merge r y).pending = s.pending := by
  simp only [merge]; split <;> rfl

/-! ### submit -/

@[simp] theorem submit_resetLow (s : State) (p : PortId) (k : Option EventKind) : (s.submit p k).resetLow = s.resetLow := by
  simp only [submit]; split
  · simp
  · split <;> simp
@[simp] theorem submit_lastCause (s : State) (p : PortId) (k : Option EventKind) : (s.submit p k).lastCause = s.lastCause := by
  simp only [submit]; split
  · simp
  · split <;> simp
@[simp] theorem submit_receiver (s : State) (p : PortId) (k : Option EventKind) : (s.submit p k).receiver = s.receiver := by
  simp only [submit]; split
  · simp
  · split <;> simp
@[simp] theorem submit_inbox (s : State) (p : PortId) (k : Option EventKind) : (s.submit p k).inbox = s.inbox := by
  simp only [submit]; split
  · simp
  · split <;> simp
@[simp] theorem submit_overflow (s : State) (p : PortId) (k : Option EventKind) : (s.submit p k).overflow = s.overflow := by
  simp only [submit]; split
  · simp
  · split <;> simp
@[simp] theorem submit_sender (s : State) (p : PortId) (k : Option EventKind) : (s.submit p k).sender = s.sender := by
  simp only [submit]; split
  · simp
  · split <;> simp
@[simp] theorem submit_profiles (s : State) (p : PortId) (k : Option EventKind) : (s.submit p k).profiles = s.profiles := by
  simp only [submit]; split
  · simp
  · split <;> simp
@[simp] theorem submit_recheck (s : State) (p : PortId) (k : Option EventKind) : (s.submit p k).recheck = s.recheck := by
  simp only [submit]; split
  · simp
  · split <;> simp
@[simp] theorem submit_banks (s : State) (p : PortId) (k : Option EventKind) : (s.submit p k).banks = s.banks := by
  simp only [submit]; split
  · simp
  · split <;> simp
@[simp] theorem submit_engines (s : State) (p : PortId) (k : Option EventKind) : (s.submit p k).engines = s.engines := by
  simp only [submit]; split
  · simp
  · split <;> simp
@[simp] theorem submit_results (s : State) (p : PortId) (k : Option EventKind) : (s.submit p k).results = s.results := by
  simp only [submit]; split
  · simp
  · split <;> simp
@[simp] theorem submit_slots (s : State) (p : PortId) (k : Option EventKind) : (s.submit p k).slots = s.slots := by
  simp only [submit]; split
  · simp
  · split <;> simp
@[simp] theorem submit_pending (s : State) (p : PortId) (k : Option EventKind) : (s.submit p k).pending = s.pending := by
  simp only [submit]; split
  · simp
  · split <;> simp

/-! ### flagEvent -/

@[simp] theorem flagEvent_resetLow (s : State) (p : PortId) (ev : FlagEvent) : (s.flagEvent p ev).resetLow = s.resetLow := by
  simp only [flagEvent]; split <;> simp
@[simp] theorem flagEvent_lastCause (s : State) (p : PortId) (ev : FlagEvent) : (s.flagEvent p ev).lastCause = s.lastCause := by
  simp only [flagEvent]; split <;> simp
@[simp] theorem flagEvent_receiver (s : State) (p : PortId) (ev : FlagEvent) : (s.flagEvent p ev).receiver = s.receiver := by
  simp only [flagEvent]; split <;> simp
@[simp] theorem flagEvent_inbox (s : State) (p : PortId) (ev : FlagEvent) : (s.flagEvent p ev).inbox = s.inbox := by
  simp only [flagEvent]; split <;> simp
@[simp] theorem flagEvent_overflow (s : State) (p : PortId) (ev : FlagEvent) : (s.flagEvent p ev).overflow = s.overflow := by
  simp only [flagEvent]; split <;> simp
@[simp] theorem flagEvent_sender (s : State) (p : PortId) (ev : FlagEvent) : (s.flagEvent p ev).sender = s.sender := by
  simp only [flagEvent]; split <;> simp
@[simp] theorem flagEvent_profiles (s : State) (p : PortId) (ev : FlagEvent) : (s.flagEvent p ev).profiles = s.profiles := by
  simp only [flagEvent]; split <;> simp
@[simp] theorem flagEvent_recheck (s : State) (p : PortId) (ev : FlagEvent) : (s.flagEvent p ev).recheck = s.recheck := by
  simp only [flagEvent]; split <;> simp
@[simp] theorem flagEvent_banks (s : State) (p : PortId) (ev : FlagEvent) : (s.flagEvent p ev).banks = s.banks := by
  simp only [flagEvent]; split <;> simp
@[simp] theorem flagEvent_engines (s : State) (p : PortId) (ev : FlagEvent) : (s.flagEvent p ev).engines = s.engines := by
  simp only [flagEvent]; split <;> simp
@[simp] theorem flagEvent_results (s : State) (p : PortId) (ev : FlagEvent) : (s.flagEvent p ev).results = s.results := by
  simp only [flagEvent]; split <;> simp
@[simp] theorem flagEvent_slots (s : State) (p : PortId) (ev : FlagEvent) : (s.flagEvent p ev).slots = s.slots := by
  simp only [flagEvent]; split <;> simp
@[simp] theorem flagEvent_pending (s : State) (p : PortId) (ev : FlagEvent) : (s.flagEvent p ev).pending = s.pending := by
  simp only [flagEvent]; split <;> simp

/-! ### flagEvents -/

@[simp] theorem flagEvents_resetLow (s : State) (p : PortId) (evs : List FlagEvent) : (s.flagEvents p evs).resetLow = s.resetLow := by
  induction evs generalizing s with
  | nil => rfl
  | cons ev rest ih => simpa [flagEvents] using ih (s.flagEvent p ev)
@[simp] theorem flagEvents_lastCause (s : State) (p : PortId) (evs : List FlagEvent) : (s.flagEvents p evs).lastCause = s.lastCause := by
  induction evs generalizing s with
  | nil => rfl
  | cons ev rest ih => simpa [flagEvents] using ih (s.flagEvent p ev)
@[simp] theorem flagEvents_receiver (s : State) (p : PortId) (evs : List FlagEvent) : (s.flagEvents p evs).receiver = s.receiver := by
  induction evs generalizing s with
  | nil => rfl
  | cons ev rest ih => simpa [flagEvents] using ih (s.flagEvent p ev)
@[simp] theorem flagEvents_inbox (s : State) (p : PortId) (evs : List FlagEvent) : (s.flagEvents p evs).inbox = s.inbox := by
  induction evs generalizing s with
  | nil => rfl
  | cons ev rest ih => simpa [flagEvents] using ih (s.flagEvent p ev)
@[simp] theorem flagEvents_overflow (s : State) (p : PortId) (evs : List FlagEvent) : (s.flagEvents p evs).overflow = s.overflow := by
  induction evs generalizing s with
  | nil => rfl
  | cons ev rest ih => simpa [flagEvents] using ih (s.flagEvent p ev)
@[simp] theorem flagEvents_sender (s : State) (p : PortId) (evs : List FlagEvent) : (s.flagEvents p evs).sender = s.sender := by
  induction evs generalizing s with
  | nil => rfl
  | cons ev rest ih => simpa [flagEvents] using ih (s.flagEvent p ev)
@[simp] theorem flagEvents_profiles (s : State) (p : PortId) (evs : List FlagEvent) : (s.flagEvents p evs).profiles = s.profiles := by
  induction evs generalizing s with
  | nil => rfl
  | cons ev rest ih => simpa [flagEvents] using ih (s.flagEvent p ev)
@[simp] theorem flagEvents_recheck (s : State) (p : PortId) (evs : List FlagEvent) : (s.flagEvents p evs).recheck = s.recheck := by
  induction evs generalizing s with
  | nil => rfl
  | cons ev rest ih => simpa [flagEvents] using ih (s.flagEvent p ev)
@[simp] theorem flagEvents_banks (s : State) (p : PortId) (evs : List FlagEvent) : (s.flagEvents p evs).banks = s.banks := by
  induction evs generalizing s with
  | nil => rfl
  | cons ev rest ih => simpa [flagEvents] using ih (s.flagEvent p ev)
@[simp] theorem flagEvents_engines (s : State) (p : PortId) (evs : List FlagEvent) : (s.flagEvents p evs).engines = s.engines := by
  induction evs generalizing s with
  | nil => rfl
  | cons ev rest ih => simpa [flagEvents] using ih (s.flagEvent p ev)
@[simp] theorem flagEvents_results (s : State) (p : PortId) (evs : List FlagEvent) : (s.flagEvents p evs).results = s.results := by
  induction evs generalizing s with
  | nil => rfl
  | cons ev rest ih => simpa [flagEvents] using ih (s.flagEvent p ev)
@[simp] theorem flagEvents_slots (s : State) (p : PortId) (evs : List FlagEvent) : (s.flagEvents p evs).slots = s.slots := by
  induction evs generalizing s with
  | nil => rfl
  | cons ev rest ih => simpa [flagEvents] using ih (s.flagEvent p ev)
@[simp] theorem flagEvents_pending (s : State) (p : PortId) (evs : List FlagEvent) : (s.flagEvents p evs).pending = s.pending := by
  induction evs generalizing s with
  | nil => rfl
  | cons ev rest ih => simpa [flagEvents] using ih (s.flagEvent p ev)

/-! ### offerWord -/

@[simp] theorem offerWord_resetLow (s : State) (p : PortId) (old : CondWord) : (s.offerWord p old).resetLow = s.resetLow := by
  simp only [offerWord]; split
  · rfl
  · split <;> simp
@[simp] theorem offerWord_lastCause (s : State) (p : PortId) (old : CondWord) : (s.offerWord p old).lastCause = s.lastCause := by
  simp only [offerWord]; split
  · rfl
  · split <;> simp
@[simp] theorem offerWord_receiver (s : State) (p : PortId) (old : CondWord) : (s.offerWord p old).receiver = s.receiver := by
  simp only [offerWord]; split
  · rfl
  · split <;> simp
@[simp] theorem offerWord_inbox (s : State) (p : PortId) (old : CondWord) : (s.offerWord p old).inbox = s.inbox := by
  simp only [offerWord]; split
  · rfl
  · split <;> simp
@[simp] theorem offerWord_overflow (s : State) (p : PortId) (old : CondWord) : (s.offerWord p old).overflow = s.overflow := by
  simp only [offerWord]; split
  · rfl
  · split <;> simp
@[simp] theorem offerWord_sender (s : State) (p : PortId) (old : CondWord) : (s.offerWord p old).sender = s.sender := by
  simp only [offerWord]; split
  · rfl
  · split <;> simp
@[simp] theorem offerWord_profiles (s : State) (p : PortId) (old : CondWord) : (s.offerWord p old).profiles = s.profiles := by
  simp only [offerWord]; split
  · rfl
  · split <;> simp
@[simp] theorem offerWord_recheck (s : State) (p : PortId) (old : CondWord) : (s.offerWord p old).recheck = s.recheck := by
  simp only [offerWord]; split
  · rfl
  · split <;> simp
@[simp] theorem offerWord_banks (s : State) (p : PortId) (old : CondWord) : (s.offerWord p old).banks = s.banks := by
  simp only [offerWord]; split
  · rfl
  · split <;> simp
@[simp] theorem offerWord_engines (s : State) (p : PortId) (old : CondWord) : (s.offerWord p old).engines = s.engines := by
  simp only [offerWord]; split
  · rfl
  · split <;> simp
@[simp] theorem offerWord_results (s : State) (p : PortId) (old : CondWord) : (s.offerWord p old).results = s.results := by
  simp only [offerWord]; split
  · rfl
  · split <;> simp
@[simp] theorem offerWord_slots (s : State) (p : PortId) (old : CondWord) : (s.offerWord p old).slots = s.slots := by
  simp only [offerWord]; split
  · rfl
  · split <;> simp
@[simp] theorem offerWord_pending (s : State) (p : PortId) (old : CondWord) : (s.offerWord p old).pending = s.pending := by
  simp only [offerWord]; split
  · rfl
  · split <;> simp

/-! ### change -/

@[simp] theorem change_resetLow (s : State) (p : PortId) (f : Port → Port) (evs : List FlagEvent) : (s.change p f evs).resetLow = s.resetLow := by
  simp [change]
@[simp] theorem change_lastCause (s : State) (p : PortId) (f : Port → Port) (evs : List FlagEvent) : (s.change p f evs).lastCause = s.lastCause := by
  simp [change]
@[simp] theorem change_receiver (s : State) (p : PortId) (f : Port → Port) (evs : List FlagEvent) : (s.change p f evs).receiver = s.receiver := by
  simp [change]
@[simp] theorem change_inbox (s : State) (p : PortId) (f : Port → Port) (evs : List FlagEvent) : (s.change p f evs).inbox = s.inbox := by
  simp [change]
@[simp] theorem change_overflow (s : State) (p : PortId) (f : Port → Port) (evs : List FlagEvent) : (s.change p f evs).overflow = s.overflow := by
  simp [change]
@[simp] theorem change_sender (s : State) (p : PortId) (f : Port → Port) (evs : List FlagEvent) : (s.change p f evs).sender = s.sender := by
  simp [change]
@[simp] theorem change_profiles (s : State) (p : PortId) (f : Port → Port) (evs : List FlagEvent) : (s.change p f evs).profiles = s.profiles := by
  simp [change]
@[simp] theorem change_recheck (s : State) (p : PortId) (f : Port → Port) (evs : List FlagEvent) : (s.change p f evs).recheck = s.recheck := by
  simp [change]
@[simp] theorem change_banks (s : State) (p : PortId) (f : Port → Port) (evs : List FlagEvent) : (s.change p f evs).banks = s.banks := by
  simp [change]
@[simp] theorem change_engines (s : State) (p : PortId) (f : Port → Port) (evs : List FlagEvent) : (s.change p f evs).engines = s.engines := by
  simp [change]
@[simp] theorem change_results (s : State) (p : PortId) (f : Port → Port) (evs : List FlagEvent) : (s.change p f evs).results = s.results := by
  simp [change]
@[simp] theorem change_slots (s : State) (p : PortId) (f : Port → Port) (evs : List FlagEvent) : (s.change p f evs).slots = s.slots := by
  simp [change]
@[simp] theorem change_pending (s : State) (p : PortId) (f : Port → Port) (evs : List FlagEvent) : (s.change p f evs).pending = s.pending := by
  simp [change]

/-! ### claim -/

@[simp] theorem claim_resetLow (s : State) (e : EngineId) (n : Nat) (t : Option SlotId) : (s.claim e n t).resetLow = s.resetLow := by
  simp only [claim]; split <;> rfl
@[simp] theorem claim_lastCause (s : State) (e : EngineId) (n : Nat) (t : Option SlotId) : (s.claim e n t).lastCause = s.lastCause := by
  simp only [claim]; split <;> rfl
@[simp] theorem claim_receiver (s : State) (e : EngineId) (n : Nat) (t : Option SlotId) : (s.claim e n t).receiver = s.receiver := by
  simp only [claim]; split <;> rfl
@[simp] theorem claim_inbox (s : State) (e : EngineId) (n : Nat) (t : Option SlotId) : (s.claim e n t).inbox = s.inbox := by
  simp only [claim]; split <;> rfl
@[simp] theorem claim_overflow (s : State) (e : EngineId) (n : Nat) (t : Option SlotId) : (s.claim e n t).overflow = s.overflow := by
  simp only [claim]; split <;> rfl
@[simp] theorem claim_sender (s : State) (e : EngineId) (n : Nat) (t : Option SlotId) : (s.claim e n t).sender = s.sender := by
  simp only [claim]; split <;> rfl
@[simp] theorem claim_ports (s : State) (e : EngineId) (n : Nat) (t : Option SlotId) : (s.claim e n t).ports = s.ports := by
  simp only [claim]; split <;> rfl
@[simp] theorem claim_profiles (s : State) (e : EngineId) (n : Nat) (t : Option SlotId) : (s.claim e n t).profiles = s.profiles := by
  simp only [claim]; split <;> rfl
@[simp] theorem claim_queue (s : State) (e : EngineId) (n : Nat) (t : Option SlotId) : (s.claim e n t).queue = s.queue := by
  simp only [claim]; split <;> rfl
@[simp] theorem claim_nextNumber (s : State) (e : EngineId) (n : Nat) (t : Option SlotId) : (s.claim e n t).nextNumber = s.nextNumber := by
  simp only [claim]; split <;> rfl
@[simp] theorem claim_recheck (s : State) (e : EngineId) (n : Nat) (t : Option SlotId) : (s.claim e n t).recheck = s.recheck := by
  simp only [claim]; split <;> rfl
@[simp] theorem claim_banks (s : State) (e : EngineId) (n : Nat) (t : Option SlotId) : (s.claim e n t).banks = s.banks := by
  simp only [claim]; split <;> rfl
@[simp] theorem claim_engines (s : State) (e : EngineId) (n : Nat) (t : Option SlotId) : (s.claim e n t).engines = s.engines := by
  simp only [claim]; split <;> rfl
@[simp] theorem claim_results (s : State) (e : EngineId) (n : Nat) (t : Option SlotId) : (s.claim e n t).results = s.results := by
  simp only [claim]; split <;> rfl
@[simp] theorem claim_reports (s : State) (e : EngineId) (n : Nat) (t : Option SlotId) : (s.claim e n t).reports = s.reports := by
  simp only [claim]; split <;> rfl
@[simp] theorem claim_passDue (s : State) (e : EngineId) (n : Nat) (t : Option SlotId) : (s.claim e n t).passDue = s.passDue := by
  simp only [claim]; split <;> rfl
@[simp] theorem claim_fetch (s : State) (e : EngineId) (n : Nat) (t : Option SlotId) : (s.claim e n t).fetch = s.fetch := by
  simp only [claim]; split <;> rfl
@[simp] theorem claim_choices (s : State) (e : EngineId) (n : Nat) (t : Option SlotId) : (s.claim e n t).choices = s.choices := by
  simp only [claim]; split <;> rfl
@[simp] theorem claim_pending (s : State) (e : EngineId) (n : Nat) (t : Option SlotId) : (s.claim e n t).pending = s.pending := by
  simp only [claim]; split <;> rfl

/-! ### portToTest -/

@[simp] theorem portToTest_resetLow (s : State) (p : PortId) : (s.portToTest p).resetLow = s.resetLow := by
  simp only [portToTest, flagEvent, isTrigger]; split <;> simp
@[simp] theorem portToTest_lastCause (s : State) (p : PortId) : (s.portToTest p).lastCause = s.lastCause := by
  simp only [portToTest, flagEvent, isTrigger]; split <;> simp
@[simp] theorem portToTest_receiver (s : State) (p : PortId) : (s.portToTest p).receiver = s.receiver := by
  simp only [portToTest, flagEvent, isTrigger]; split <;> simp
@[simp] theorem portToTest_inbox (s : State) (p : PortId) : (s.portToTest p).inbox = s.inbox := by
  simp only [portToTest, flagEvent, isTrigger]; split <;> simp
@[simp] theorem portToTest_overflow (s : State) (p : PortId) : (s.portToTest p).overflow = s.overflow := by
  simp only [portToTest, flagEvent, isTrigger]; split <;> simp
@[simp] theorem portToTest_sender (s : State) (p : PortId) : (s.portToTest p).sender = s.sender := by
  simp only [portToTest, flagEvent, isTrigger]; split <;> simp
@[simp] theorem portToTest_profiles (s : State) (p : PortId) : (s.portToTest p).profiles = s.profiles := by
  simp only [portToTest, flagEvent, isTrigger]; split <;> simp
@[simp] theorem portToTest_queue (s : State) (p : PortId) : (s.portToTest p).queue = s.queue := by
  simp only [portToTest, flagEvent, isTrigger]; split <;> simp
@[simp] theorem portToTest_nextNumber (s : State) (p : PortId) : (s.portToTest p).nextNumber = s.nextNumber := by
  simp only [portToTest, flagEvent, isTrigger]; split <;> simp
@[simp] theorem portToTest_recheck (s : State) (p : PortId) : (s.portToTest p).recheck = s.recheck := by
  simp only [portToTest, flagEvent, isTrigger]; split <;> simp
@[simp] theorem portToTest_banks (s : State) (p : PortId) : (s.portToTest p).banks = s.banks := by
  simp only [portToTest, flagEvent, isTrigger]; split <;> simp
@[simp] theorem portToTest_engines (s : State) (p : PortId) : (s.portToTest p).engines = s.engines := by
  simp only [portToTest, flagEvent, isTrigger]; split <;> simp
@[simp] theorem portToTest_results (s : State) (p : PortId) : (s.portToTest p).results = s.results := by
  simp only [portToTest, flagEvent, isTrigger]; split <;> simp
@[simp] theorem portToTest_slots (s : State) (p : PortId) : (s.portToTest p).slots = s.slots := by
  simp only [portToTest, flagEvent, isTrigger]; split <;> simp
@[simp] theorem portToTest_passDue (s : State) (p : PortId) : (s.portToTest p).passDue = s.passDue := by
  simp only [portToTest, flagEvent, isTrigger]; split <;> simp
@[simp] theorem portToTest_fetch (s : State) (p : PortId) : (s.portToTest p).fetch = s.fetch := by
  simp only [portToTest, flagEvent, isTrigger]; split <;> simp
@[simp] theorem portToTest_choices (s : State) (p : PortId) : (s.portToTest p).choices = s.choices := by
  simp only [portToTest, flagEvent, isTrigger]; split <;> simp
@[simp] theorem portToTest_pending (s : State) (p : PortId) : (s.portToTest p).pending = s.pending := by
  simp only [portToTest, flagEvent, isTrigger]; split <;> simp

/-! ### grantEngine -/

@[simp] theorem grantEngine_resetLow (s : State) (r : TestRecord) (e : EngineId) : (s.grantEngine r e).resetLow = s.resetLow := by
  simp [grantEngine]
@[simp] theorem grantEngine_lastCause (s : State) (r : TestRecord) (e : EngineId) : (s.grantEngine r e).lastCause = s.lastCause := by
  simp [grantEngine]
@[simp] theorem grantEngine_receiver (s : State) (r : TestRecord) (e : EngineId) : (s.grantEngine r e).receiver = s.receiver := by
  simp [grantEngine]
@[simp] theorem grantEngine_inbox (s : State) (r : TestRecord) (e : EngineId) : (s.grantEngine r e).inbox = s.inbox := by
  simp [grantEngine]
@[simp] theorem grantEngine_overflow (s : State) (r : TestRecord) (e : EngineId) : (s.grantEngine r e).overflow = s.overflow := by
  simp [grantEngine]
@[simp] theorem grantEngine_sender (s : State) (r : TestRecord) (e : EngineId) : (s.grantEngine r e).sender = s.sender := by
  simp [grantEngine]
@[simp] theorem grantEngine_profiles (s : State) (r : TestRecord) (e : EngineId) : (s.grantEngine r e).profiles = s.profiles := by
  simp [grantEngine]
@[simp] theorem grantEngine_nextNumber (s : State) (r : TestRecord) (e : EngineId) : (s.grantEngine r e).nextNumber = s.nextNumber := by
  simp [grantEngine]
@[simp] theorem grantEngine_recheck (s : State) (r : TestRecord) (e : EngineId) : (s.grantEngine r e).recheck = s.recheck := by
  simp [grantEngine]
@[simp] theorem grantEngine_results (s : State) (r : TestRecord) (e : EngineId) : (s.grantEngine r e).results = s.results := by
  simp [grantEngine]
@[simp] theorem grantEngine_passDue (s : State) (r : TestRecord) (e : EngineId) : (s.grantEngine r e).passDue = s.passDue := by
  simp [grantEngine]
@[simp] theorem grantEngine_fetch (s : State) (r : TestRecord) (e : EngineId) : (s.grantEngine r e).fetch = s.fetch := by
  simp [grantEngine]
@[simp] theorem grantEngine_choices (s : State) (r : TestRecord) (e : EngineId) : (s.grantEngine r e).choices = s.choices := by
  simp [grantEngine]
@[simp] theorem grantEngine_pending (s : State) (r : TestRecord) (e : EngineId) : (s.grantEngine r e).pending = s.pending := by
  simp [grantEngine]

/-! ### grant -/

@[simp] theorem grant_resetLow (s : State) (r : TestRecord) (e : EngineId) : (s.grant r e).resetLow = s.resetLow := by
  simp only [grant]; split <;> simp
@[simp] theorem grant_lastCause (s : State) (r : TestRecord) (e : EngineId) : (s.grant r e).lastCause = s.lastCause := by
  simp only [grant]; split <;> simp
@[simp] theorem grant_receiver (s : State) (r : TestRecord) (e : EngineId) : (s.grant r e).receiver = s.receiver := by
  simp only [grant]; split <;> simp
@[simp] theorem grant_inbox (s : State) (r : TestRecord) (e : EngineId) : (s.grant r e).inbox = s.inbox := by
  simp only [grant]; split <;> simp
@[simp] theorem grant_overflow (s : State) (r : TestRecord) (e : EngineId) : (s.grant r e).overflow = s.overflow := by
  simp only [grant]; split <;> simp
@[simp] theorem grant_sender (s : State) (r : TestRecord) (e : EngineId) : (s.grant r e).sender = s.sender := by
  simp only [grant]; split <;> simp
@[simp] theorem grant_profiles (s : State) (r : TestRecord) (e : EngineId) : (s.grant r e).profiles = s.profiles := by
  simp only [grant]; split <;> simp
@[simp] theorem grant_nextNumber (s : State) (r : TestRecord) (e : EngineId) : (s.grant r e).nextNumber = s.nextNumber := by
  simp only [grant]; split <;> simp
@[simp] theorem grant_recheck (s : State) (r : TestRecord) (e : EngineId) : (s.grant r e).recheck = s.recheck := by
  simp only [grant]; split <;> simp
@[simp] theorem grant_results (s : State) (r : TestRecord) (e : EngineId) : (s.grant r e).results = s.results := by
  simp only [grant]; split <;> simp
@[simp] theorem grant_passDue (s : State) (r : TestRecord) (e : EngineId) : (s.grant r e).passDue = s.passDue := by
  simp only [grant]; split <;> simp
@[simp] theorem grant_fetch (s : State) (r : TestRecord) (e : EngineId) : (s.grant r e).fetch = s.fetch := by
  simp only [grant]; split <;> simp
@[simp] theorem grant_choices (s : State) (r : TestRecord) (e : EngineId) : (s.grant r e).choices = s.choices := by
  simp only [grant]; split <;> simp
@[simp] theorem grant_pending (s : State) (r : TestRecord) (e : EngineId) : (s.grant r e).pending = s.pending := by
  simp only [grant]; split <;> simp

/-! ### passFuel -/

@[simp] theorem passFuel_resetLow (n : Nat) (s : State) : (s.passFuel n).resetLow = s.resetLow :=
  passFuel_rec (P := fun t => t.resetLow = s.resetLow) (fun t r e _ _ h => by simpa using h) n s rfl
@[simp] theorem passFuel_lastCause (n : Nat) (s : State) : (s.passFuel n).lastCause = s.lastCause :=
  passFuel_rec (P := fun t => t.lastCause = s.lastCause) (fun t r e _ _ h => by simpa using h) n s rfl
@[simp] theorem passFuel_receiver (n : Nat) (s : State) : (s.passFuel n).receiver = s.receiver :=
  passFuel_rec (P := fun t => t.receiver = s.receiver) (fun t r e _ _ h => by simpa using h) n s rfl
@[simp] theorem passFuel_inbox (n : Nat) (s : State) : (s.passFuel n).inbox = s.inbox :=
  passFuel_rec (P := fun t => t.inbox = s.inbox) (fun t r e _ _ h => by simpa using h) n s rfl
@[simp] theorem passFuel_overflow (n : Nat) (s : State) : (s.passFuel n).overflow = s.overflow :=
  passFuel_rec (P := fun t => t.overflow = s.overflow) (fun t r e _ _ h => by simpa using h) n s rfl
@[simp] theorem passFuel_sender (n : Nat) (s : State) : (s.passFuel n).sender = s.sender :=
  passFuel_rec (P := fun t => t.sender = s.sender) (fun t r e _ _ h => by simpa using h) n s rfl
@[simp] theorem passFuel_profiles (n : Nat) (s : State) : (s.passFuel n).profiles = s.profiles :=
  passFuel_rec (P := fun t => t.profiles = s.profiles) (fun t r e _ _ h => by simpa using h) n s rfl
@[simp] theorem passFuel_nextNumber (n : Nat) (s : State) : (s.passFuel n).nextNumber = s.nextNumber :=
  passFuel_rec (P := fun t => t.nextNumber = s.nextNumber) (fun t r e _ _ h => by simpa using h) n s rfl
@[simp] theorem passFuel_recheck (n : Nat) (s : State) : (s.passFuel n).recheck = s.recheck :=
  passFuel_rec (P := fun t => t.recheck = s.recheck) (fun t r e _ _ h => by simpa using h) n s rfl
@[simp] theorem passFuel_results (n : Nat) (s : State) : (s.passFuel n).results = s.results :=
  passFuel_rec (P := fun t => t.results = s.results) (fun t r e _ _ h => by simpa using h) n s rfl
@[simp] theorem passFuel_passDue (n : Nat) (s : State) : (s.passFuel n).passDue = s.passDue :=
  passFuel_rec (P := fun t => t.passDue = s.passDue) (fun t r e _ _ h => by simpa using h) n s rfl
@[simp] theorem passFuel_fetch (n : Nat) (s : State) : (s.passFuel n).fetch = s.fetch :=
  passFuel_rec (P := fun t => t.fetch = s.fetch) (fun t r e _ _ h => by simpa using h) n s rfl
@[simp] theorem passFuel_choices (n : Nat) (s : State) : (s.passFuel n).choices = s.choices :=
  passFuel_rec (P := fun t => t.choices = s.choices) (fun t r e _ _ h => by simpa using h) n s rfl
@[simp] theorem passFuel_pending (n : Nat) (s : State) : (s.passFuel n).pending = s.pending :=
  passFuel_rec (P := fun t => t.pending = s.pending) (fun t r e _ _ h => by simpa using h) n s rfl

/-! ### grantPass -/

@[simp] theorem grantPass_resetLow (s : State) : s.grantPass.resetLow = s.resetLow := by
  simp [grantPass]
@[simp] theorem grantPass_lastCause (s : State) : s.grantPass.lastCause = s.lastCause := by
  simp [grantPass]
@[simp] theorem grantPass_receiver (s : State) : s.grantPass.receiver = s.receiver := by
  simp [grantPass]
@[simp] theorem grantPass_inbox (s : State) : s.grantPass.inbox = s.inbox := by
  simp [grantPass]
@[simp] theorem grantPass_overflow (s : State) : s.grantPass.overflow = s.overflow := by
  simp [grantPass]
@[simp] theorem grantPass_sender (s : State) : s.grantPass.sender = s.sender := by
  simp [grantPass]
@[simp] theorem grantPass_profiles (s : State) : s.grantPass.profiles = s.profiles := by
  simp [grantPass]
@[simp] theorem grantPass_nextNumber (s : State) : s.grantPass.nextNumber = s.nextNumber := by
  simp [grantPass]
@[simp] theorem grantPass_recheck (s : State) : s.grantPass.recheck = s.recheck := by
  simp [grantPass]
@[simp] theorem grantPass_results (s : State) : s.grantPass.results = s.results := by
  simp [grantPass]
@[simp] theorem grantPass_passDue (s : State) : s.grantPass.passDue = s.passDue := by
  simp [grantPass]
@[simp] theorem grantPass_fetch (s : State) : s.grantPass.fetch = s.fetch := by
  simp [grantPass]
@[simp] theorem grantPass_choices (s : State) : s.grantPass.choices = s.choices := by
  simp [grantPass]
@[simp] theorem grantPass_pending (s : State) : s.grantPass.pending = s.pending := by
  simp [grantPass]

/-! ### settle -/

@[simp] theorem settle_resetLow (s : State) : s.settle.resetLow = s.resetLow := by
  simp only [settle]; split <;> simp
@[simp] theorem settle_lastCause (s : State) : s.settle.lastCause = s.lastCause := by
  simp only [settle]; split <;> simp
@[simp] theorem settle_receiver (s : State) : s.settle.receiver = s.receiver := by
  simp only [settle]; split <;> simp
@[simp] theorem settle_inbox (s : State) : s.settle.inbox = s.inbox := by
  simp only [settle]; split <;> simp
@[simp] theorem settle_overflow (s : State) : s.settle.overflow = s.overflow := by
  simp only [settle]; split <;> simp
@[simp] theorem settle_sender (s : State) : s.settle.sender = s.sender := by
  simp only [settle]; split <;> simp
@[simp] theorem settle_profiles (s : State) : s.settle.profiles = s.profiles := by
  simp only [settle]; split <;> simp
@[simp] theorem settle_nextNumber (s : State) : s.settle.nextNumber = s.nextNumber := by
  simp only [settle]; split <;> simp
@[simp] theorem settle_recheck (s : State) : s.settle.recheck = s.recheck := by
  simp only [settle]; split <;> simp
@[simp] theorem settle_results (s : State) : s.settle.results = s.results := by
  simp only [settle]; split <;> simp
@[simp] theorem settle_fetch (s : State) : s.settle.fetch = s.fetch := by
  simp only [settle]; split <;> simp
@[simp] theorem settle_choices (s : State) : s.settle.choices = s.choices := by
  simp only [settle]; split <;> simp
@[simp] theorem settle_pending (s : State) : s.settle.pending = s.pending := by
  simp only [settle]; split <;> simp

/-! ### settleSlot -/

@[simp] theorem settleSlot_resetLow (s : State) (j : Job) (x : TestOutcome) (q : Quad PairRecord) (c : Quad (List Int)) : (s.settleSlot j x q c).resetLow = s.resetLow := by
  simp only [settleSlot]; split
  · rfl
  · split <;> rfl
@[simp] theorem settleSlot_lastCause (s : State) (j : Job) (x : TestOutcome) (q : Quad PairRecord) (c : Quad (List Int)) : (s.settleSlot j x q c).lastCause = s.lastCause := by
  simp only [settleSlot]; split
  · rfl
  · split <;> rfl
@[simp] theorem settleSlot_receiver (s : State) (j : Job) (x : TestOutcome) (q : Quad PairRecord) (c : Quad (List Int)) : (s.settleSlot j x q c).receiver = s.receiver := by
  simp only [settleSlot]; split
  · rfl
  · split <;> rfl
@[simp] theorem settleSlot_inbox (s : State) (j : Job) (x : TestOutcome) (q : Quad PairRecord) (c : Quad (List Int)) : (s.settleSlot j x q c).inbox = s.inbox := by
  simp only [settleSlot]; split
  · rfl
  · split <;> rfl
@[simp] theorem settleSlot_overflow (s : State) (j : Job) (x : TestOutcome) (q : Quad PairRecord) (c : Quad (List Int)) : (s.settleSlot j x q c).overflow = s.overflow := by
  simp only [settleSlot]; split
  · rfl
  · split <;> rfl
@[simp] theorem settleSlot_sender (s : State) (j : Job) (x : TestOutcome) (q : Quad PairRecord) (c : Quad (List Int)) : (s.settleSlot j x q c).sender = s.sender := by
  simp only [settleSlot]; split
  · rfl
  · split <;> rfl
@[simp] theorem settleSlot_ports (s : State) (j : Job) (x : TestOutcome) (q : Quad PairRecord) (c : Quad (List Int)) : (s.settleSlot j x q c).ports = s.ports := by
  simp only [settleSlot]; split
  · rfl
  · split <;> rfl
@[simp] theorem settleSlot_profiles (s : State) (j : Job) (x : TestOutcome) (q : Quad PairRecord) (c : Quad (List Int)) : (s.settleSlot j x q c).profiles = s.profiles := by
  simp only [settleSlot]; split
  · rfl
  · split <;> rfl
@[simp] theorem settleSlot_queue (s : State) (j : Job) (x : TestOutcome) (q : Quad PairRecord) (c : Quad (List Int)) : (s.settleSlot j x q c).queue = s.queue := by
  simp only [settleSlot]; split
  · rfl
  · split <;> rfl
@[simp] theorem settleSlot_nextNumber (s : State) (j : Job) (x : TestOutcome) (q : Quad PairRecord) (c : Quad (List Int)) : (s.settleSlot j x q c).nextNumber = s.nextNumber := by
  simp only [settleSlot]; split
  · rfl
  · split <;> rfl
@[simp] theorem settleSlot_recheck (s : State) (j : Job) (x : TestOutcome) (q : Quad PairRecord) (c : Quad (List Int)) : (s.settleSlot j x q c).recheck = s.recheck := by
  simp only [settleSlot]; split
  · rfl
  · split <;> rfl
@[simp] theorem settleSlot_banks (s : State) (j : Job) (x : TestOutcome) (q : Quad PairRecord) (c : Quad (List Int)) : (s.settleSlot j x q c).banks = s.banks := by
  simp only [settleSlot]; split
  · rfl
  · split <;> rfl
@[simp] theorem settleSlot_engines (s : State) (j : Job) (x : TestOutcome) (q : Quad PairRecord) (c : Quad (List Int)) : (s.settleSlot j x q c).engines = s.engines := by
  simp only [settleSlot]; split
  · rfl
  · split <;> rfl
@[simp] theorem settleSlot_results (s : State) (j : Job) (x : TestOutcome) (q : Quad PairRecord) (c : Quad (List Int)) : (s.settleSlot j x q c).results = s.results := by
  simp only [settleSlot]; split
  · rfl
  · split <;> rfl
@[simp] theorem settleSlot_reports (s : State) (j : Job) (x : TestOutcome) (q : Quad PairRecord) (c : Quad (List Int)) : (s.settleSlot j x q c).reports = s.reports := by
  simp only [settleSlot]; split
  · rfl
  · split <;> rfl
@[simp] theorem settleSlot_passDue (s : State) (j : Job) (x : TestOutcome) (q : Quad PairRecord) (c : Quad (List Int)) : (s.settleSlot j x q c).passDue = s.passDue := by
  simp only [settleSlot]; split
  · rfl
  · split <;> rfl
@[simp] theorem settleSlot_fetch (s : State) (j : Job) (x : TestOutcome) (q : Quad PairRecord) (c : Quad (List Int)) : (s.settleSlot j x q c).fetch = s.fetch := by
  simp only [settleSlot]; split
  · rfl
  · split <;> rfl
@[simp] theorem settleSlot_choices (s : State) (j : Job) (x : TestOutcome) (q : Quad PairRecord) (c : Quad (List Int)) : (s.settleSlot j x q c).choices = s.choices := by
  simp only [settleSlot]; split
  · rfl
  · split <;> rfl
@[simp] theorem settleSlot_pending (s : State) (j : Job) (x : TestOutcome) (q : Quad PairRecord) (c : Quad (List Int)) : (s.settleSlot j x q c).pending = s.pending := by
  simp only [settleSlot]; split
  · rfl
  · split <;> rfl

/-! ### endTest -/

@[simp] theorem endTest_resetLow (s : State) (e : EngineId) (x : TestOutcome) (q : Quad PairRecord) : (s.endTest e x q).resetLow = s.resetLow := by
  simp only [endTest]; split
  · rfl
  · split <;> simp
@[simp] theorem endTest_lastCause (s : State) (e : EngineId) (x : TestOutcome) (q : Quad PairRecord) : (s.endTest e x q).lastCause = s.lastCause := by
  simp only [endTest]; split
  · rfl
  · split <;> simp
@[simp] theorem endTest_receiver (s : State) (e : EngineId) (x : TestOutcome) (q : Quad PairRecord) : (s.endTest e x q).receiver = s.receiver := by
  simp only [endTest]; split
  · rfl
  · split <;> simp
@[simp] theorem endTest_inbox (s : State) (e : EngineId) (x : TestOutcome) (q : Quad PairRecord) : (s.endTest e x q).inbox = s.inbox := by
  simp only [endTest]; split
  · rfl
  · split <;> simp
@[simp] theorem endTest_overflow (s : State) (e : EngineId) (x : TestOutcome) (q : Quad PairRecord) : (s.endTest e x q).overflow = s.overflow := by
  simp only [endTest]; split
  · rfl
  · split <;> simp
@[simp] theorem endTest_sender (s : State) (e : EngineId) (x : TestOutcome) (q : Quad PairRecord) : (s.endTest e x q).sender = s.sender := by
  simp only [endTest]; split
  · rfl
  · split <;> simp
@[simp] theorem endTest_profiles (s : State) (e : EngineId) (x : TestOutcome) (q : Quad PairRecord) : (s.endTest e x q).profiles = s.profiles := by
  simp only [endTest]; split
  · rfl
  · split <;> simp
@[simp] theorem endTest_nextNumber (s : State) (e : EngineId) (x : TestOutcome) (q : Quad PairRecord) : (s.endTest e x q).nextNumber = s.nextNumber := by
  simp only [endTest]; split
  · rfl
  · split <;> simp
@[simp] theorem endTest_recheck (s : State) (e : EngineId) (x : TestOutcome) (q : Quad PairRecord) : (s.endTest e x q).recheck = s.recheck := by
  simp only [endTest]; split
  · rfl
  · split <;> simp
@[simp] theorem endTest_banks (s : State) (e : EngineId) (x : TestOutcome) (q : Quad PairRecord) : (s.endTest e x q).banks = s.banks := by
  simp only [endTest]; split
  · rfl
  · split <;> simp
@[simp] theorem endTest_passDue (s : State) (e : EngineId) (x : TestOutcome) (q : Quad PairRecord) : (s.endTest e x q).passDue = s.passDue := by
  simp only [endTest]; split
  · rfl
  · split <;> simp
@[simp] theorem endTest_fetch (s : State) (e : EngineId) (x : TestOutcome) (q : Quad PairRecord) : (s.endTest e x q).fetch = s.fetch := by
  simp only [endTest]; split
  · rfl
  · split <;> simp
@[simp] theorem endTest_choices (s : State) (e : EngineId) (x : TestOutcome) (q : Quad PairRecord) : (s.endTest e x q).choices = s.choices := by
  simp only [endTest]; split
  · rfl
  · split <;> simp
@[simp] theorem endTest_pending (s : State) (e : EngineId) (x : TestOutcome) (q : Quad PairRecord) : (s.endTest e x q).pending = s.pending := by
  simp only [endTest]; split
  · rfl
  · split <;> simp

/-! ### abort -/

@[simp] theorem abort_resetLow (s : State) (e : EngineId) : (s.abort e).resetLow = s.resetLow := by
  simp only [abort]; split <;> simp
@[simp] theorem abort_lastCause (s : State) (e : EngineId) : (s.abort e).lastCause = s.lastCause := by
  simp only [abort]; split <;> simp
@[simp] theorem abort_receiver (s : State) (e : EngineId) : (s.abort e).receiver = s.receiver := by
  simp only [abort]; split <;> simp
@[simp] theorem abort_inbox (s : State) (e : EngineId) : (s.abort e).inbox = s.inbox := by
  simp only [abort]; split <;> simp
@[simp] theorem abort_overflow (s : State) (e : EngineId) : (s.abort e).overflow = s.overflow := by
  simp only [abort]; split <;> simp
@[simp] theorem abort_sender (s : State) (e : EngineId) : (s.abort e).sender = s.sender := by
  simp only [abort]; split <;> simp
@[simp] theorem abort_profiles (s : State) (e : EngineId) : (s.abort e).profiles = s.profiles := by
  simp only [abort]; split <;> simp
@[simp] theorem abort_nextNumber (s : State) (e : EngineId) : (s.abort e).nextNumber = s.nextNumber := by
  simp only [abort]; split <;> simp
@[simp] theorem abort_recheck (s : State) (e : EngineId) : (s.abort e).recheck = s.recheck := by
  simp only [abort]; split <;> simp
@[simp] theorem abort_banks (s : State) (e : EngineId) : (s.abort e).banks = s.banks := by
  simp only [abort]; split <;> simp
@[simp] theorem abort_passDue (s : State) (e : EngineId) : (s.abort e).passDue = s.passDue := by
  simp only [abort]; split <;> simp
@[simp] theorem abort_fetch (s : State) (e : EngineId) : (s.abort e).fetch = s.fetch := by
  simp only [abort]; split <;> simp
@[simp] theorem abort_choices (s : State) (e : EngineId) : (s.abort e).choices = s.choices := by
  simp only [abort]; split <;> simp
@[simp] theorem abort_pending (s : State) (e : EngineId) : (s.abort e).pending = s.pending := by
  simp only [abort]; split <;> simp

/-! ### completeStranded -/

@[simp] theorem completeStranded_resetLow (s : State) : s.completeStranded.resetLow = s.resetLow := by
  simp only [completeStranded]
  generalize s.queue.filter _ = rs
  induction rs generalizing s with
  | nil => rfl
  | cons r rest ih => simpa using ih (s.completeRecord r .noEngine noPairs)
@[simp] theorem completeStranded_lastCause (s : State) : s.completeStranded.lastCause = s.lastCause := by
  simp only [completeStranded]
  generalize s.queue.filter _ = rs
  induction rs generalizing s with
  | nil => rfl
  | cons r rest ih => simpa using ih (s.completeRecord r .noEngine noPairs)
@[simp] theorem completeStranded_receiver (s : State) : s.completeStranded.receiver = s.receiver := by
  simp only [completeStranded]
  generalize s.queue.filter _ = rs
  induction rs generalizing s with
  | nil => rfl
  | cons r rest ih => simpa using ih (s.completeRecord r .noEngine noPairs)
@[simp] theorem completeStranded_inbox (s : State) : s.completeStranded.inbox = s.inbox := by
  simp only [completeStranded]
  generalize s.queue.filter _ = rs
  induction rs generalizing s with
  | nil => rfl
  | cons r rest ih => simpa using ih (s.completeRecord r .noEngine noPairs)
@[simp] theorem completeStranded_overflow (s : State) : s.completeStranded.overflow = s.overflow := by
  simp only [completeStranded]
  generalize s.queue.filter _ = rs
  induction rs generalizing s with
  | nil => rfl
  | cons r rest ih => simpa using ih (s.completeRecord r .noEngine noPairs)
@[simp] theorem completeStranded_sender (s : State) : s.completeStranded.sender = s.sender := by
  simp only [completeStranded]
  generalize s.queue.filter _ = rs
  induction rs generalizing s with
  | nil => rfl
  | cons r rest ih => simpa using ih (s.completeRecord r .noEngine noPairs)
@[simp] theorem completeStranded_profiles (s : State) : s.completeStranded.profiles = s.profiles := by
  simp only [completeStranded]
  generalize s.queue.filter _ = rs
  induction rs generalizing s with
  | nil => rfl
  | cons r rest ih => simpa using ih (s.completeRecord r .noEngine noPairs)
@[simp] theorem completeStranded_nextNumber (s : State) : s.completeStranded.nextNumber = s.nextNumber := by
  simp only [completeStranded]
  generalize s.queue.filter _ = rs
  induction rs generalizing s with
  | nil => rfl
  | cons r rest ih => simpa using ih (s.completeRecord r .noEngine noPairs)
@[simp] theorem completeStranded_recheck (s : State) : s.completeStranded.recheck = s.recheck := by
  simp only [completeStranded]
  generalize s.queue.filter _ = rs
  induction rs generalizing s with
  | nil => rfl
  | cons r rest ih => simpa using ih (s.completeRecord r .noEngine noPairs)
@[simp] theorem completeStranded_banks (s : State) : s.completeStranded.banks = s.banks := by
  simp only [completeStranded]
  generalize s.queue.filter _ = rs
  induction rs generalizing s with
  | nil => rfl
  | cons r rest ih => simpa using ih (s.completeRecord r .noEngine noPairs)
@[simp] theorem completeStranded_engines (s : State) : s.completeStranded.engines = s.engines := by
  simp only [completeStranded]
  generalize s.queue.filter _ = rs
  induction rs generalizing s with
  | nil => rfl
  | cons r rest ih => simpa using ih (s.completeRecord r .noEngine noPairs)
@[simp] theorem completeStranded_results (s : State) : s.completeStranded.results = s.results := by
  simp only [completeStranded]
  generalize s.queue.filter _ = rs
  induction rs generalizing s with
  | nil => rfl
  | cons r rest ih => simpa using ih (s.completeRecord r .noEngine noPairs)
@[simp] theorem completeStranded_slots (s : State) : s.completeStranded.slots = s.slots := by
  simp only [completeStranded]
  generalize s.queue.filter _ = rs
  induction rs generalizing s with
  | nil => rfl
  | cons r rest ih => simpa using ih (s.completeRecord r .noEngine noPairs)
@[simp] theorem completeStranded_passDue (s : State) : s.completeStranded.passDue = s.passDue := by
  simp only [completeStranded]
  generalize s.queue.filter _ = rs
  induction rs generalizing s with
  | nil => rfl
  | cons r rest ih => simpa using ih (s.completeRecord r .noEngine noPairs)
@[simp] theorem completeStranded_fetch (s : State) : s.completeStranded.fetch = s.fetch := by
  simp only [completeStranded]
  generalize s.queue.filter _ = rs
  induction rs generalizing s with
  | nil => rfl
  | cons r rest ih => simpa using ih (s.completeRecord r .noEngine noPairs)
@[simp] theorem completeStranded_choices (s : State) : s.completeStranded.choices = s.choices := by
  simp only [completeStranded]
  generalize s.queue.filter _ = rs
  induction rs generalizing s with
  | nil => rfl
  | cons r rest ih => simpa using ih (s.completeRecord r .noEngine noPairs)
@[simp] theorem completeStranded_pending (s : State) : s.completeStranded.pending = s.pending := by
  simp only [completeStranded]
  generalize s.queue.filter _ = rs
  induction rs generalizing s with
  | nil => rfl
  | cons r rest ih => simpa using ih (s.completeRecord r .noEngine noPairs)

/-! ### freeEngine -/

@[simp] theorem freeEngine_resetLow (s : State) (e : EngineId) : (s.freeEngine e).resetLow = s.resetLow := by
  simp only [freeEngine]; split <;> simp
@[simp] theorem freeEngine_lastCause (s : State) (e : EngineId) : (s.freeEngine e).lastCause = s.lastCause := by
  simp only [freeEngine]; split <;> simp
@[simp] theorem freeEngine_receiver (s : State) (e : EngineId) : (s.freeEngine e).receiver = s.receiver := by
  simp only [freeEngine]; split <;> simp
@[simp] theorem freeEngine_inbox (s : State) (e : EngineId) : (s.freeEngine e).inbox = s.inbox := by
  simp only [freeEngine]; split <;> simp
@[simp] theorem freeEngine_overflow (s : State) (e : EngineId) : (s.freeEngine e).overflow = s.overflow := by
  simp only [freeEngine]; split <;> simp
@[simp] theorem freeEngine_sender (s : State) (e : EngineId) : (s.freeEngine e).sender = s.sender := by
  simp only [freeEngine]; split <;> simp
@[simp] theorem freeEngine_profiles (s : State) (e : EngineId) : (s.freeEngine e).profiles = s.profiles := by
  simp only [freeEngine]; split <;> simp
@[simp] theorem freeEngine_nextNumber (s : State) (e : EngineId) : (s.freeEngine e).nextNumber = s.nextNumber := by
  simp only [freeEngine]; split <;> simp
@[simp] theorem freeEngine_recheck (s : State) (e : EngineId) : (s.freeEngine e).recheck = s.recheck := by
  simp only [freeEngine]; split <;> simp
@[simp] theorem freeEngine_banks (s : State) (e : EngineId) : (s.freeEngine e).banks = s.banks := by
  simp only [freeEngine]; split <;> simp
@[simp] theorem freeEngine_results (s : State) (e : EngineId) : (s.freeEngine e).results = s.results := by
  simp only [freeEngine]; split <;> simp
@[simp] theorem freeEngine_slots (s : State) (e : EngineId) : (s.freeEngine e).slots = s.slots := by
  simp only [freeEngine]; split <;> simp
@[simp] theorem freeEngine_passDue (s : State) (e : EngineId) : (s.freeEngine e).passDue = s.passDue := by
  simp only [freeEngine]; split <;> simp
@[simp] theorem freeEngine_fetch (s : State) (e : EngineId) : (s.freeEngine e).fetch = s.fetch := by
  simp only [freeEngine]; split <;> simp
@[simp] theorem freeEngine_choices (s : State) (e : EngineId) : (s.freeEngine e).choices = s.choices := by
  simp only [freeEngine]; split <;> simp
@[simp] theorem freeEngine_pending (s : State) (e : EngineId) : (s.freeEngine e).pending = s.pending := by
  simp only [freeEngine]; split <;> simp

/-! ### freePort -/

@[simp] theorem freePort_resetLow (s : State) (p : PortId) : (s.freePort p).resetLow = s.resetLow := by
  simp [freePort]
@[simp] theorem freePort_lastCause (s : State) (p : PortId) : (s.freePort p).lastCause = s.lastCause := by
  simp [freePort]
@[simp] theorem freePort_receiver (s : State) (p : PortId) : (s.freePort p).receiver = s.receiver := by
  simp [freePort]
@[simp] theorem freePort_inbox (s : State) (p : PortId) : (s.freePort p).inbox = s.inbox := by
  simp [freePort]
@[simp] theorem freePort_overflow (s : State) (p : PortId) : (s.freePort p).overflow = s.overflow := by
  simp [freePort]
@[simp] theorem freePort_sender (s : State) (p : PortId) : (s.freePort p).sender = s.sender := by
  simp [freePort]
@[simp] theorem freePort_profiles (s : State) (p : PortId) : (s.freePort p).profiles = s.profiles := by
  simp [freePort]
@[simp] theorem freePort_recheck (s : State) (p : PortId) : (s.freePort p).recheck = s.recheck := by
  simp [freePort]
@[simp] theorem freePort_engines (s : State) (p : PortId) : (s.freePort p).engines = s.engines := by
  simp [freePort]
@[simp] theorem freePort_results (s : State) (p : PortId) : (s.freePort p).results = s.results := by
  simp [freePort]
@[simp] theorem freePort_slots (s : State) (p : PortId) : (s.freePort p).slots = s.slots := by
  simp [freePort]
@[simp] theorem freePort_pending (s : State) (p : PortId) : (s.freePort p).pending = s.pending := by
  simp [freePort]

/-! ### releaseEnd -/

@[simp] theorem releaseEnd_resetLow (s : State) (e : EngineId) : (s.releaseEnd e).resetLow = s.resetLow := by
  simp only [releaseEnd]; split <;> simp
@[simp] theorem releaseEnd_lastCause (s : State) (e : EngineId) : (s.releaseEnd e).lastCause = s.lastCause := by
  simp only [releaseEnd]; split <;> simp
@[simp] theorem releaseEnd_receiver (s : State) (e : EngineId) : (s.releaseEnd e).receiver = s.receiver := by
  simp only [releaseEnd]; split <;> simp
@[simp] theorem releaseEnd_inbox (s : State) (e : EngineId) : (s.releaseEnd e).inbox = s.inbox := by
  simp only [releaseEnd]; split <;> simp
@[simp] theorem releaseEnd_overflow (s : State) (e : EngineId) : (s.releaseEnd e).overflow = s.overflow := by
  simp only [releaseEnd]; split <;> simp
@[simp] theorem releaseEnd_sender (s : State) (e : EngineId) : (s.releaseEnd e).sender = s.sender := by
  simp only [releaseEnd]; split <;> simp
@[simp] theorem releaseEnd_profiles (s : State) (e : EngineId) : (s.releaseEnd e).profiles = s.profiles := by
  simp only [releaseEnd]; split <;> simp
@[simp] theorem releaseEnd_recheck (s : State) (e : EngineId) : (s.releaseEnd e).recheck = s.recheck := by
  simp only [releaseEnd]; split <;> simp
@[simp] theorem releaseEnd_results (s : State) (e : EngineId) : (s.releaseEnd e).results = s.results := by
  simp only [releaseEnd]; split <;> simp
@[simp] theorem releaseEnd_pending (s : State) (e : EngineId) : (s.releaseEnd e).pending = s.pending := by
  simp only [releaseEnd]; split <;> simp

/-! ### finishPair -/

@[simp] theorem finishPair_resetLow (s : State) (e : EngineId) (x : PairRecord) : (s.finishPair e x).resetLow = s.resetLow := by
  simp only [finishPair]; split <;> simp
@[simp] theorem finishPair_lastCause (s : State) (e : EngineId) (x : PairRecord) : (s.finishPair e x).lastCause = s.lastCause := by
  simp only [finishPair]; split <;> simp
@[simp] theorem finishPair_receiver (s : State) (e : EngineId) (x : PairRecord) : (s.finishPair e x).receiver = s.receiver := by
  simp only [finishPair]; split <;> simp
@[simp] theorem finishPair_inbox (s : State) (e : EngineId) (x : PairRecord) : (s.finishPair e x).inbox = s.inbox := by
  simp only [finishPair]; split <;> simp
@[simp] theorem finishPair_overflow (s : State) (e : EngineId) (x : PairRecord) : (s.finishPair e x).overflow = s.overflow := by
  simp only [finishPair]; split <;> simp
@[simp] theorem finishPair_sender (s : State) (e : EngineId) (x : PairRecord) : (s.finishPair e x).sender = s.sender := by
  simp only [finishPair]; split <;> simp
@[simp] theorem finishPair_profiles (s : State) (e : EngineId) (x : PairRecord) : (s.finishPair e x).profiles = s.profiles := by
  simp only [finishPair]; split <;> simp
@[simp] theorem finishPair_nextNumber (s : State) (e : EngineId) (x : PairRecord) : (s.finishPair e x).nextNumber = s.nextNumber := by
  simp only [finishPair]; split <;> simp
@[simp] theorem finishPair_recheck (s : State) (e : EngineId) (x : PairRecord) : (s.finishPair e x).recheck = s.recheck := by
  simp only [finishPair]; split <;> simp
@[simp] theorem finishPair_banks (s : State) (e : EngineId) (x : PairRecord) : (s.finishPair e x).banks = s.banks := by
  simp only [finishPair]; split <;> simp
@[simp] theorem finishPair_passDue (s : State) (e : EngineId) (x : PairRecord) : (s.finishPair e x).passDue = s.passDue := by
  simp only [finishPair]; split <;> simp
@[simp] theorem finishPair_fetch (s : State) (e : EngineId) (x : PairRecord) : (s.finishPair e x).fetch = s.fetch := by
  simp only [finishPair]; split <;> simp
@[simp] theorem finishPair_choices (s : State) (e : EngineId) (x : PairRecord) : (s.finishPair e x).choices = s.choices := by
  simp only [finishPair]; split <;> simp
@[simp] theorem finishPair_pending (s : State) (e : EngineId) (x : PairRecord) : (s.finishPair e x).pending = s.pending := by
  simp only [finishPair]; split <;> simp

end Sys2Proof.Machine.State
end

