-- ==== Sys2Proof/Laws/Specs.lean ====
section
/-! SUPPORT. What each shared operation can do, said once: cite these instead of unfolding the operation. -/

namespace Sys2Proof.Machine

/-! ### Numbers -/

/-- A counter that holds at a limit never passes it. -/
theorem bump_le {limit n : Nat} (h : n ≤ limit) : bump limit n ≤ limit := by
  unfold bump; split <;> omega

/-- A clamped number lies in its range. -/
theorem clampTo_mem {lo hi : Nat} (h : lo ≤ hi) (n : Nat) : lo ≤ clampTo lo hi n ∧ clampTo lo hi n ≤ hi := by
  unfold clampTo; split
  · omega
  · split <;> omega

/-- A number in range is not clamped. -/
theorem clampTo_of_mem {lo hi n : Nat} (h : lo ≤ n) (h' : n ≤ hi) : clampTo lo hi n = n := by
  unfold clampTo; split
  · omega
  · split <;> omega

/-- A port's own number names it. -/
@[simp] theorem portOf_portByte (p : PortId) : portOf (portByte p) = some p := by
  have h : (portByte p).toNat = p.val + 1 := by
    have := p.isLt
    simp [portByte, byteOf]; omega
  have := p.isLt
  simp [portOf, h]

namespace State

/-! ### Flagged events -/

/-- Steps 1 and 2 of R58 at the port itself: its flag is set and nothing else of its record moves. -/
@[simp] theorem flagAndReport_port_self (s : State) (p : PortId) (ev : FlagEvent) :
    (s.flagAndReport p ev).port p = (s.port p).setFlag ev.kind := by
  simp only [flagAndReport]; split <;> simp

/-- Steps 1 and 2 of R58 leave every other port. -/
theorem flagAndReport_port_ne (s : State) (p : PortId) (ev : FlagEvent) {p' : PortId} (h : p' ≠ p) :
    (s.flagAndReport p ev).port p' = s.port p' := by
  simp only [flagAndReport]; split <;> simp [modPort_port_ne _ _ _ _ h]

/-- The report queue after steps 1 and 2 of R58. -/
theorem flagAndReport_reports (s : State) (p : PortId) (ev : FlagEvent) :
    (s.flagAndReport p ev).reports =
      if hasKind (s.profile p).reportEnables ev.kind
      then addEvent p ev ((s.port p).setFlag ev.kind).word s.reports else s.reports := by
  simp only [flagAndReport]
  split <;> simp_all [profile]

/-- A completion takes the record out of the queue and nothing else. -/
@[simp] theorem completeRecord_queue (s : State) (r : TestRecord) (x : TestOutcome) (q : Quad PairRecord) :
    (s.completeRecord r x q).queue = s.queue.filter (fun y => y.number != r.number) := by
  simp [completeRecord]

/-- A completion sets the TEST_DONE flag of the record's port. -/
@[simp] theorem completeRecord_port_self (s : State) (r : TestRecord) (x : TestOutcome) (q : Quad PairRecord) :
    (s.completeRecord r x q).port r.port = (s.port r.port).setFlag .testDone := by
  simp [completeRecord, FlagEvent.kind]

/-- A completion leaves every other port. -/
theorem completeRecord_port_ne (s : State) (r : TestRecord) (x : TestOutcome) (q : Quad PairRecord) {p : PortId}
    (h : p ≠ r.port) : (s.completeRecord r x q).port p = s.port p := by
  simp [completeRecord, flagAndReport_port_ne _ _ _ h]

/-- A hold notice leaves every port. -/
@[simp] theorem holdNotice_port (s : State) (p : PortId) (n : Nat) (k : Option EventKind) (p' : PortId) :
    (s.holdNotice p n k).port p' = s.port p' := by simp [port]

/-- A merge leaves every port. -/
@[simp] theorem merge_port (s : State) (r : TestRecord) (y : Nat) (p : PortId) : (s.merge r y).port p = s.port p := by
  simp [port]

/-- A submission moves nothing of its port but the TEST_DONE flag, which a want of engines sets. -/
theorem submit_port_self (s : State) (p : PortId) (k : Option EventKind) :
    (s.submit p k).port p = s.port p ∨ (s.submit p k).port p = (s.port p).setFlag .testDone := by
  simp only [submit]; split
  · simp
  · split
    · simp
    · right
      simp [completeRecord, FlagEvent.kind, submitted]

/-- A submission leaves every other port. -/
theorem submit_port_ne (s : State) (p : PortId) (k : Option EventKind) {p' : PortId} (h : p' ≠ p) :
    (s.submit p k).port p' = s.port p' := by
  simp only [submit]; split
  · simp
  · split
    · simp
    · rw [completeRecord_port_ne _ _ _ _ (by simpa [submitted] using h)]; simp

end State

@[simp] theorem Port.bare_setFlag (q : Port) (k : EventKind) : (q.setFlag k).bare = q.bare := rfl
@[simp] theorem Port.bare_setWatchState (q : Port) (x : WatchState) : (q.setWatchState x).bare = q.bare := rfl
@[simp] theorem Port.bare_compare (q : Port) : q.compare.bare = q.bare := rfl

/-- The condition word does not depend on flags and watch. -/
theorem Port.word_of_bare {q r : Port} (h : q.bare = r.bare) : q.word = r.word := by
  have : ∀ x : Port, x.bare.word = x.word := fun _ => rfl
  rw [← this q, h, this]

namespace State

/-- A flagged event moves nothing of its port but flags. -/
theorem flagEvent_bare (s : State) (p : PortId) (ev : FlagEvent) :
    ((s.flagEvent p ev).port p).bare = (s.port p).bare := by
  simp only [flagEvent]; split
  · rcases submit_port_self (s.flagAndReport p ev) p (some ev.kind) with h | h <;> simp [h]
  · simp

/-- A flagged event leaves every other port. -/
theorem flagEvent_port_ne (s : State) (p : PortId) (ev : FlagEvent) {p' : PortId} (h : p' ≠ p) :
    (s.flagEvent p ev).port p' = s.port p' := by
  simp only [flagEvent]; split
  · rw [submit_port_ne _ _ _ h, flagAndReport_port_ne _ _ _ h]
  · rw [flagAndReport_port_ne _ _ _ h]

/-- Flagged events move nothing of their port but flags. -/
theorem flagEvents_bare (s : State) (p : PortId) (evs : List FlagEvent) :
    ((s.flagEvents p evs).port p).bare = (s.port p).bare := by
  induction evs generalizing s with
  | nil => rfl
  | cons ev rest ih => exact (ih (s.flagEvent p ev)).trans (flagEvent_bare s p ev)

/-- Flagged events leave every other port. -/
theorem flagEvents_port_ne (s : State) (p : PortId) (evs : List FlagEvent) {p' : PortId} (h : p' ≠ p) :
    (s.flagEvents p evs).port p' = s.port p' := by
  induction evs generalizing s with
  | nil => rfl
  | cons ev rest ih => exact (ih (s.flagEvent p ev)).trans (flagEvent_port_ne s p ev h)

/-- Offering the word moves nothing of the port but flags and the watch. -/
theorem offerWord_bare (s : State) (p : PortId) (old : CondWord) :
    ((s.offerWord p old).port p).bare = (s.port p).bare := by
  simp only [offerWord]; split
  · rfl
  · split
    · rw [flagEvent_bare]; simp
    · simp

/-- Offering the word leaves every other port. -/
theorem offerWord_port_ne (s : State) (p : PortId) (old : CondWord) {p' : PortId} (h : p' ≠ p) :
    (s.offerWord p old).port p' = s.port p' := by
  simp only [offerWord]; split
  · rfl
  · split
    · rw [flagEvent_port_ne _ _ _ h]; simp [setPort_port_ne _ _ _ _ h]
    · simp [setPort_port_ne _ _ _ _ h]

/-- One change gives the port the record of its move, but for flags and the watch. -/
theorem change_bare (s : State) (p : PortId) (f : Port → Port) (evs : List FlagEvent) :
    ((s.change p f evs).port p).bare = (f (s.port p)).bare := by
  simp only [change]; rw [offerWord_bare, flagEvents_bare]; simp

/-- One change leaves every other port. -/
theorem change_port_ne (s : State) (p : PortId) (f : Port → Port) (evs : List FlagEvent) {p' : PortId} (h : p' ≠ p) :
    (s.change p f evs).port p' = s.port p' := by
  simp only [change]; rw [offerWord_port_ne _ _ _ h, flagEvents_port_ne _ _ _ h, modPort_port_ne _ _ _ _ h]

end State

/-! ### Reports: a port's entry -/

/-- Where the queue holds one entry per port, `entryOf` finds a port's entry exactly where it stands in the queue. -/
theorem entryOf_eq_some_iff {p : PortId} {x : PortEntry} :
    ∀ {r : List Entry}, (r.map Entry.owner).Nodup → (entryOf p r = some x ↔ Entry.port x ∈ r ∧ x.port = p)
  | [], _ => by simp [entryOf]
  | .device _ :: r, h => by
    simp [entryOf, entryOf_eq_some_iff (r := r) (List.nodup_cons.mp h).2]
  | .port y :: r, h => by
    obtain ⟨hn, hr⟩ := List.nodup_cons.mp h
    by_cases hy : y.port = p
    · simp only [entryOf, hy, if_pos, List.mem_cons, Entry.port.injEq, Option.some.injEq]
      constructor
      · rintro rfl; exact ⟨.inl rfl, hy⟩
      · rintro ⟨rfl | hx, hp⟩
        · rfl
        · exact absurd (List.mem_map.mpr ⟨_, hx, by simp [Entry.owner, hp, hy]⟩) hn
    · simp only [entryOf, hy, if_false, entryOf_eq_some_iff (r := r) hr, List.mem_cons, Entry.port.injEq]
      constructor
      · rintro ⟨hx, hp⟩; exact ⟨.inr hx, hp⟩
      · rintro ⟨rfl | hx, hp⟩
        · exact absurd hp hy
        · exact ⟨hx, hp⟩

/-! ### Warm restart: the engines (R150) -/

@[simp] theorem Engine.unclaimed_state (x : Engine) : x.unclaimed.state = x.state := rfl
@[simp] theorem Engine.unclaimed_meas (x : Engine) : x.unclaimed.meas = x.meas := rfl
@[simp] theorem Engine.unclaimed_finished (x : Engine) : x.unclaimed.finished = x.finished := rfl
@[simp] theorem Engine.unclaimed_buffer (x : Engine) : x.unclaimed.buffer = x.buffer := rfl
@[simp] theorem Engine.unclaimed_faultPending (x : Engine) : x.unclaimed.faultPending = x.faultPending := rfl

/-- An unclaimed engine is connected as before, and its connection names no slot. -/
theorem Engine.unclaimed_job_eq_some_iff {x : Engine} {j : Job} :
    x.unclaimed.job = some j ↔ ∃ k, x.job = some k ∧ j = { k with slot := none } := by
  simp [Engine.unclaimed, eq_comm]

/-- The blocks' part of a warm restart leaves each engine as it is but for its claim. -/
@[simp] theorem State.warmBlocks_engine (s : State) (e : EngineId) :
    s.warmBlocks.engine e = (s.engine e).unclaimed := by
  simp [State.warmBlocks, State.engine]

/-! ### Fetching (R161, R162) -/

/-- A FETCH_REPORTS returns at most as many entries as it may. -/
theorem fetched_length_le : ∀ (n : Nat) (r : List Entry), (fetched n r).length ≤ n
  | _, [] => by simp [fetched]
  | 0, _ :: _ => by simp [fetched]
  | n + 1, x :: r => by
    have h := fetched_length_le n r
    have k := fetched_length_le (n + 1) r
    unfold fetched
    split <;> simp <;> omega

/-- What a FETCH_REPORTS returns comes from the queue and is not held. -/
theorem mem_fetched {x : Entry} : ∀ {n : Nat} {r : List Entry}, x ∈ fetched n r → x ∈ r ∧ x.held = false
  | _, [], h => by simp [fetched] at h
  | 0, _ :: _, h => by simp [fetched] at h
  | n + 1, y :: r, h => by
    unfold fetched at h
    split at h
    · exact ⟨.tail _ (mem_fetched h).1, (mem_fetched h).2⟩
    · rcases List.mem_cons.mp h with rfl | h
      · exact ⟨.head _, eq_false_of_ne_true ‹_›⟩
      · exact ⟨.tail _ (mem_fetched h).1, (mem_fetched h).2⟩

/-- What a FETCH_REPORTS leaves keeps its order. -/
theorem leftAfter_sublist : ∀ (n : Nat) (r : List Entry), (leftAfter n r).Sublist r
  | _, [] => by simp [leftAfter]
  | 0, _ :: _ => by simp [leftAfter]
  | n + 1, x :: r => by
    unfold leftAfter
    split
    · exact (leftAfter_sublist (n + 1) r).cons_cons x
    · exact (leftAfter_sublist n r).cons x

/-- With no FETCH_REPORTS at hand none comes together with a notice. -/
theorem State.meetFetch_of_not_atHand {s : State} (h : s.fetchAtHand = false) : s.meetFetch = s := by
  simp [State.meetFetch, h]

/-- With no command waiting no FETCH_REPORTS is at hand. -/
@[simp] theorem State.fetchAtHand_setPending_nil (s : State) : (s.setPending []).fetchAtHand = false := by
  simp only [State.fetchAtHand, State.frameAtHand, State.setPending]
  cases s.resetLow <;> rfl

/-- All that the moment before a hold can do: nothing, count a choice, or take the FETCH_REPORTS at hand. -/
theorem State.meetFetch_cases (s : State) :
    s.meetFetch = s ∨ (s.fetchAtHand = true ∧ s.fetch = none ∧
      (s.meetFetch = s.setChoices (s.choices + 1) ∨
        s.meetFetch =
          ((s.setReports (leftAfter 6 s.reports)).setChoices (s.choices + 1)).setFetch (some s.takeReports.2))) := by
  unfold State.meetFetch
  split
  · rename_i h
    simp only [Bool.and_eq_true, Option.isNone_iff_eq_none] at h
    refine .inr ⟨h.1, h.2, ?_⟩
    simp only
    split
    · exact .inr rfl
    · exact .inl rfl
  · exact .inl rfl

/-! ### The owners of requests leave the management line alone -/

/-- What an owner leaves: the line, the pin, the restart cause and the waiting commands. -/
structure LineKept (s t : State) : Prop where
  resetLow : t.resetLow = s.resetLow
  lastCause : t.lastCause = s.lastCause
  receiver : t.receiver = s.receiver
  inbox : t.inbox = s.inbox
  overflow : t.overflow = s.overflow
  sender : t.sender = s.sender
  pending : t.pending = s.pending

theorem LineKept.refl (s : State) : LineKept s s := ⟨rfl, rfl, rfl, rfl, rfl, rfl, rfl⟩

theorem LineKept.trans {s t u : State} (h : LineKept s t) (k : LineKept t u) : LineKept s u :=
  ⟨k.1.trans h.1, k.2.trans h.2, k.3.trans h.3, k.4.trans h.4, k.5.trans h.5, k.6.trans h.6, k.7.trans h.7⟩

/-- What leaves the line and the waiting commands leaves the FETCH_REPORTS at hand. -/
theorem LineKept.fetchAtHand {s t : State} (h : LineKept s t) : t.fetchAtHand = s.fetchAtHand := by
  simp only [State.fetchAtHand, State.frameAtHand, h.resetLow, h.pending, h.sender, h.overflow, h.inbox, h.receiver]

/-- A request that names a port leaves what its owner leaves. -/
theorem withPort_kept {b : Byte} {s : State} {k : PortId → State × Answer} (h : ∀ p, LineKept s (k p).1) :
    LineKept s (withPort b s k).1 := by
  unfold withPort; split
  · exact h _
  · exact .refl s

/-- What is done apart leaves what it leaves with no command in sight, and the waiting commands. -/
theorem apart_kept {s : State} {f : State → State} (h : LineKept (s.setPending []) (f (s.setPending []))) :
    LineKept s (s.apart f) :=
  ⟨h.resetLow, h.lastCause, h.receiver, h.inbox, h.overflow, h.sender, rfl⟩

theorem setAdmin_kept (s : State) (p : PortId) (a : Bool) : LineKept s (s.setAdmin p a) := by
  refine apart_kept ?_
  split <;> constructor <;> simp

theorem portRestart_kept (s : State) (p : PortId) : LineKept s (s.portRestart p) := by
  refine apart_kept ?_
  simp only [State.abortPort]
  split
  · split <;> constructor <;> simp
  · constructor <;> simp

theorem writeProfile_kept (s : State) (r : Profile) (p : PortId) : LineKept s (s.writeProfile r p) := by
  unfold State.writeProfile; simp only; split <;> constructor <;> simp

theorem writes_kept (s : State) (r : Profile) (ps : List PortId) :
    LineKept s (ps.foldl (fun s p => s.writeProfile r p) s) := by
  induction ps generalizing s with
  | nil => exact .refl s
  | cons p rest ih => exact (writeProfile_kept s r p).trans (ih _)

theorem settle_kept (s : State) : LineKept s s.settle := by constructor <;> simp

theorem startTest_kept (s : State) (p : PortId) (x : Reach) (avg priority : Nat) (c d : Bool) :
    LineKept s (s.startTest p x avg priority c d).1 := by
  unfold State.startTest; split
  · exact .refl s
  · split
    · exact .refl s
    · split
      · constructor <;> simp [State.append]
      · exact .refl s

theorem cancelFound_kept (s : State) (r : Option TestRecord) : LineKept s (s.cancelFound r).1 := by
  cases r with
  | none => exact .refl s
  | some r => simp only [State.cancelFound, State.cancel]; split <;> constructor <;> simp

/-- No owner touches the management line, the pin, the restart cause or the waiting commands. -/
theorem own_kept (r : Request) (s : State) : LineKept s (own r s).1 := by
  cases r with
  | identify => exact .refl s
  | restart m => simp only [own, ownRestart]; split <;> exact .refl s
  | setProfile f l x =>
    simp only [own, ownSetProfile]; split
    · split
      · exact .refl s
      · split
        · dsimp only
          refine apart_kept ?_
          exact (writes_kept _ _ _).trans (settle_kept _)
        · exact .refl s
    · exact .refl s
  | getProfile p => exact withPort_kept fun _ => .refl s
  | setAdmin p a => exact withPort_kept fun q => by split <;> first | exact .refl s | exact setAdmin_kept s q _
  | portRestart p => exact withPort_kept fun q => portRestart_kept s q
  | getPort p => exact withPort_kept fun _ => .refl s
  | clearFlags p k => exact withPort_kept fun _ => by constructor <;> rfl
  | setWatch p e m => exact withPort_kept fun _ => by split <;> constructor <;> rfl
  | clearCounters p => exact withPort_kept fun _ => by constructor <;> rfl
  | loadPages p gs =>
    exact withPort_kept fun _ => by
      split
      · exact .refl s
      · split
        · exact .refl s
        · constructor <;> rfl
  | clearPages p => exact withPort_kept fun _ => by split <;> constructor <;> rfl
  | getPartnerPages p => exact withPort_kept fun _ => .refl s
  | startTest p r a c y d =>
    exact withPort_kept fun _ => by split <;> first | exact startTest_kept s _ _ _ _ _ _ | exact .refl s
  | cancelTest x v =>
    simp only [own, ownCancelTest]; split
    · split <;> first | exact .refl s | exact cancelFound_kept s _
    · split <;> first | exact .refl s | exact cancelFound_kept s _
    · exact .refl s
  | getQueue f => exact .refl s
  | restoreEngine e =>
    simp only [own, ownRestoreEngine]; split
    · exact .refl s
    · simp only [State.restoreEngine]; split <;> constructor <;> simp
  | getResult p => exact withPort_kept fun _ => by split <;> exact .refl s
  | readTrace t p f c =>
    simp only [own, ownReadTrace]; split
    · split <;> exact .refl s
    · exact .refl s
  | releaseTrace t =>
    simp only [own, ownReleaseTrace]; split
    · exact .refl s
    · split <;> first | exact .refl s | (constructor <;> rfl)
  | fetchReports => simp only [own, ownFetchReports]; split <;> constructor <;> rfl
  | getSummary => exact .refl s

end Sys2Proof.Machine
end

