-- ==== Sys2Proof/Tests/Slice0.lean ====
section
/-! SUPPORT. The model's own tests: the WellFormed smoke, values the spec works out, one step of each command, and for
every statement a state and operands that meet its hypotheses. -/

namespace Sys2Proof.Tests

open Sys2Proof.Machine

set_option Elab.async false

/-! ### Helpers -/

/-- The state after one command. -/
def after (i : Instr) (s : State) : State :=
  match exec i s with
  | .next t => t
  | .fault _ | .refused _ => s

/-- Status and body of the reply on the wire. -/
def answer (s : State) : Option (Status × List Byte) :=
  match s.sender with
  | .sending r _ => some (r.status, r.body)
  | .idle => none

/-- The reset state with one port record. -/
def withPort (p : PortId) (q : Port) : State := State.reset.setPort p q

/-- A port after the offer formed in the worked sequence of chapter 1, E1. -/
def offerPort : Port :=
  { coldPort 1 with
    state := .offer, enabled := true, energy := true, exchangeTimer := some 1500,
    pages := [⟨17, 0x00A001⟩, ⟨18, 0x00A002⟩],
    ownOffer := some { speeds := 0x1F, roleClass := .preferFollow, seed := 612, hasPages := true, heard := false } }

/-- The partner's offer of that sequence, with HEARD as given. -/
def partnerOffer (heard : Bool) : OfferWord :=
  { speeds := 0b00111, roleClass := .preferLead, seed := 77, hasPages := true, heard }

/-- The port in EXTEND after E3. -/
def extendPort : Port :=
  Port.extending { offerPort with
    partnerOffer := some (partnerOffer true),
    ownOffer := some { speeds := 0x1F, roleClass := .preferFollow, seed := 612, hasPages := true, heard := true } }

/-- A port in TRAIN at S10G as FOLLOW whose failure count there is `n`. -/
def trainPort (n : Nat) : Port :=
  { coldPort 1 with
    state := .train, enabled := true, energy := true, training := some (.s10g, .follow), trainTimer := some 2500,
    failCounts := { noFailures with s10g := n } }

/-- A port UP at S10G as LEAD. -/
def upPort : Port :=
  { coldPort 1 with
    state := .up, enabled := true, energy := true, link := some { speed := .s10g, role := .lead, margin := 142 } }

/-- A port that went into LISTEN without energy. -/
def listenPort : Port := { coldPort 0 with state := .listen, enabled := true, absence := true }

/-- A port that is STALLED with energy. -/
def stalledPort : Port :=
  { coldPort 1 with state := .stalled, enabled := true, energy := true, stallCause := some .trainingExhausted }

/-- A port in HOLDOFF. -/
def holdoffPort : Port := { coldPort 1 with state := .holdoff, enabled := true, energy := true, holdoff := some 500 }

/-- A test record that waits. -/
def waiting (n : Nat) (p : PortId) (y : Nat) : TestRecord :=
  { number := n, port := p, origin := .request, reach := .auto, avg := 0, capture := true, priority := y,
    allowDrop := true, state := .pending }

/-- The snapshot of the default profile. -/
def snapshot : Snapshot :=
  { velocity := 660, lossSlope := 40, detectLevel := 160, hardLevel := 1100, crossLevel := 500, noiseLimit := 48 }

/-- The measurement state at the start of pair D. -/
def measD : Meas :=
  { pair := .d, run := .first, attempt := 1, waiting := false, baselines := none, spread := none, reps := 0,
    sums := sameQuad [] }

/-- A finished pair of a class. -/
def finished (x : Pair) (c : PairClass) : PairRecord :=
  { pair := x, cls := c, measured := some { reach := .medium, attempts := 1, spread := 5 }, echo := none, partner := none }

/-- Engine PE1 in a state, measuring for test 40 on port 1 with slot 1 claimed. -/
def engineIn (x : EngineState) (m : Option Meas) : Engine :=
  { state := x, meas := m, buffer := sameQuad [], faultPending := false,
    finished := [finished .a .noisy, finished .b .noisy, finished .c .noisy],
    job := some { port := 0, number := 40, reach := .auto, avg := 0, capture := true, slot := some 0, snap := snapshot } }

/-- The part with that engine, its bank, port, record and slot. -/
def testing (x : EngineState) (m : Option Meas) : State :=
  { (withPort 0 { coldPort 0 with state := .test, watch := { coldWatch with state := .unarmed } }) with
    queue := [{ waiting 40 0 4 with state := .running 0 }], nextNumber := 41,
    banks := (Vector.replicate 6 none).set 0 (some { port := 0, engine := 0 }),
    engines := (Vector.replicate 4 coldEngine).set 0 (engineIn x m),
    slots := (Vector.replicate 8 .free).set 0 (.filling 0 40) }

/-- A list of `n` values that are 0 but at the places named. -/
def row (n : Nat) (xs : List (Nat × Int)) : List Int := (List.range n).map (fun i => (xs.lookup i).getD 0)

/-- Sixteen samples that alternate between two values. -/
def sixteen (x y : Sample) : List Sample := (List.range 16).map (fun i => if i % 2 = 0 then x else y)

/-! ### Well-formedness -/

theorem test_wf_pages : (Instr.loadPages 0 1 (List.replicate 60 ⟨1, 0⟩)).wf = true ∧
    (Instr.loadPages 0 1 (List.replicate 61 ⟨1, 0⟩)).wf = false := by decide +kernel

theorem test_wf_aging_number : (Instr.agingClockExpiry 0).wf = false ∧ (Instr.agingClockExpiry 1).wf = true ∧
    (Instr.agingClockExpiry 65535).wf = true ∧ (Instr.agingClockExpiry 65536).wf = false := by decide

theorem test_wf_listen_samples : (Instr.listenAttemptEnd 0 (sameQuad (List.replicate 16 0))).wf = true ∧
    (Instr.listenAttemptEnd 0 (sameQuad (List.replicate 15 0))).wf = false ∧
    (Instr.listenAttemptEnd 0 ⟨List.replicate 16 0, List.replicate 16 0, List.replicate 16 0, List.replicate 17 0⟩).wf =
      false := by decide +kernel

theorem test_wf_capture_window : (Instr.launchCaptured 0 (sameQuad (List.replicate 256 0))).wf = true ∧
    (Instr.launchCaptured 0 (sameQuad (List.replicate 255 0))).wf = false ∧
    (Instr.launchCaptured 0 { sameQuad (List.replicate 256 0) with d := List.replicate 640 0 }).wf = false := by
  decide +kernel

/-! ### Values the spec works out -/

/-- R178: the check value of the CRC over the ASCII digits 1 to 9. -/
theorem test_crc_check_value :
    crc16 [0x31, 0x32, 0x33, 0x34, 0x35, 0x36, 0x37, 0x38, 0x39] = 0x29B1#16 := by decide +kernel

/-- The table of R118 (floor), with no baseline and no loss. -/
theorem test_average_rounds_down :
    [(1643, 4), (-7, 4), (-8, 4), (5, 8), (-1, 8)].map (fun x : Int × Nat => compensated 0 x.2 0 0 x.1) =
      [410, -2, -2, 0, -1] := by decide +kernel

/-- The table of R120. -/
theorem test_loss_factor :
    [0, 100, 243, 639, 1023].map (lossFactor 40) = [1024, 1274, 1631, 2621, 3581] ∧ lossFactor 255 1023 = 17328 := by
  decide +kernel

/-- The table of R121: truncation and saturation (f is 1634 at index 244 with slope 40, 16961 at 1000 with slope 255). -/
theorem test_compensated_truncates : compensated 40 1 0 244 407 = 649 ∧ compensated 40 1 0 244 (-407) = -649 ∧
    compensated 255 1 0 1000 3000 = 32767 ∧ compensated 255 1 0 1000 (-3000) = -32768 := by decide +kernel

/-- The worked case of chapter 7, an open at 47 m: five compensated values, then class, i0, peak and distance. -/
theorem test_open_at_47_m :
    compensatedFrom 40 4 3 243 [316, 1643, 2492, 2812, 2772] = [121, 649, 990, 1120, 1105] ∧
    classify snapshot 20 .b
      ⟨row 300 [(30, 210)], row 300 [(243, 121), (244, 649), (245, 990), (246, 1120), (247, 1105)], row 300 [(40, 180)],
       row 300 [(50, 95)]⟩ =
      { cls := .opened, echo := some { i0 := 244, peak := 1120, distance := 4709 }, partner := none } := by
  decide +kernel

/-- The worked case of chapter 7, a short between pairs C and D, seen from C. -/
theorem test_cross_short :
    classify snapshot 12 .c
      ⟨row 310 [(20, 130)], row 310 [(305, 560)], row 310 [(298, -171), (299, -640)],
       row 310 [(299, 432), (300, 519), (303, 812)]⟩ =
      { cls := .crossShort, echo := some { i0 := 300, peak := 812, distance := 5817 }, partner := some .d } := by
  decide +kernel

/-- The worked case of chapter 7, a short at the connector, and the distances its text adds. -/
theorem test_short_at_connector :
    classify snapshot 8 .a
      ⟨row 20 [(8, -1900)], row 20 [(3, 453), (4, 605), (9, 1225)], row 20 [], row 20 []⟩ =
      { cls := .crossShort, echo := some { i0 := 4, peak := 1225, distance := 0 }, partner := some .b } ∧
    distanceOf 660 8 = 40 ∧ distanceOf 660 150 = 2849 ∧ distanceOf 900 1023 = 27441 := by decide +kernel

/-- The fetched entry of port 30 at the end of chapter 12. -/
theorem test_fetched_entry :
    entryBytes (.port
      { port := 29, kinds := 0x112#9, word := { coldWord with energy := true, testing := true },
        downCause := some .signalLost, stallCause := some .trainingExhausted, hold := none,
        summary := some { number := 90, outcome := .complete, worst := .opened, pair := .c, distance := some 3120 } }) =
      [0x00, 0x1E, 0x01, 0x12, 0x00, 0x09, 0x01, 0x03, 0x00, 0x5A, 0x00, 0x01, 0x02, 0x01, 0x0C, 0x30] := by
  decide +kernel

/-- R195: UP at S5G as FOLLOW, STRAIGHT, pair B's polarity flag set and ENERGY 1 is sent as C8h 28h. -/
theorem test_condition_word_example :
    bytes16 (encodeWord { coldWord with
      link := true, speed := some .s5g, role := some .follow, polarity := 0b0010, energy := true }) = [0xC8, 0x28] := by
  decide +kernel

/-- R168: holdoff_ms 50 becomes 100, velocity 950 becomes 900 and downshift_after 9 becomes 4. -/
theorem test_profile_clamp :
    (rawClamped { Profile.raw defaultProfile with holdoffMs := 50, velocity := 950, downshiftAfter := 9 }) =
      { defaultProfile with holdoffMs := 100, velocity := 900, downshiftAfter := 4 } := by decide +kernel

/-- Chapter 2, E10: a margin sample 124 after 140 gives floor(1108 / 8) = 138. -/
theorem test_smoothed_margin :
    ((after (.marginSample 11 124) (withPort 11 { upPort with smoothed := some 140, samples := 1 })).port 11).smoothed =
      some 138 := by decide +kernel

/-! ### One step of each request -/

theorem test_identify : answer (after (.identify 7) State.reset) = some (.ok, [0x4B, 0x12, 0xC6, 1, 0, 48]) := by
  decide +kernel

theorem test_restart_bad_mode : answer (after (.restart 7 2) State.reset) = some (.badValue, []) := by decide +kernel

theorem test_set_profile_clamped_range :
    (after (.setProfile 7 47 48 { Profile.raw defaultProfile with holdoffMs := 50 }) State.reset).profiles.toList.map
      (·.holdoffMs) = List.replicate 46 500 ++ [100, 100] := by decide +kernel

theorem test_get_profile_defaults :
    (answer (after (.getProfile 7 48) State.reset)).map (fun x => x.2.take 8) = some [48, 0, 0x1F, 2, 3, 2, 0x01, 0xF4] := by
  decide +kernel

/-- R2, R5: ENABLE without energy enters LISTEN and starts the absence timer. -/
theorem test_set_admin_enable :
    answer (after (.setAdmin 7 48 1) State.reset) = some (.ok, [1, 1]) ∧
    (after (.setAdmin 7 48 1) State.reset).port 47 = listenPort := by decide +kernel

theorem test_port_restart_from_up :
    answer (after (.portRestart 7 3) (withPort 2 upPort)) = some (.ok, [6]) ∧
    ((after (.portRestart 7 3) (withPort 2 upPort)).port 2).lastDown = some .restart := by decide +kernel

theorem test_get_port_up :
    (answer (after (.getPort 7 3) (withPort 2 upPort))).map (fun x => (x.2.length, x.2.take 7)) =
      some (58, [3, 5, 1, 0xD4, 0x08, 0x1F, 0x10]) := by decide +kernel

theorem test_clear_flags_keeps_unnamed :
    (after (.clearFlags 7 1 0x0002) (withPort 0 { coldPort 0 with flags := 0x103#9 })).port 0 =
      { coldPort 0 with flags := 0x101#9 } := by decide +kernel

/-- Chapter 3, W1: a watch for an S10G link arms at once. -/
theorem test_set_watch_arms :
    answer (after (.setWatch 7 20 0xD000 0x0003) (withPort 19 upPort)) = some (.ok, [1]) := by decide +kernel

theorem test_clear_counters :
    (answer (after (.clearCounters 7 1) (withPort 0 { coldPort 0 with counters := ⟨1, 2, 3, 4, 0x506⟩ }))) =
      some (.ok, [0, 1, 0, 2, 0, 3, 0, 4, 5, 6]) := by decide +kernel

theorem test_load_pages_stops_at_eight :
    answer (after (.loadPages 7 1 (List.replicate 7 ⟨9, 1⟩)) (withPort 0 offerPort)) = some (.ok, [6, 8]) := by
  decide +kernel

theorem test_clear_pages_in_extend :
    answer (after (.clearPages 7 1) (withPort 0 extendPort)) = some (.phaseBusy, []) ∧
    answer (after (.clearPages 7 1) (withPort 0 offerPort)) = some (.ok, [2]) := by decide +kernel

theorem test_get_partner_pages :
    answer (after (.getPartnerPages 7 1) (withPort 0 { coldPort 0 with log := [⟨33, 0x000101⟩], truncated := true })) =
      some (.ok, [1, 1, 33, 0, 1, 1]) := by decide +kernel

/-- Chapter 4, E2: exponent 9 is clamped to 6, and the test takes number 42. -/
theorem test_start_test_clamped :
    answer (after (.startTest 7 5 2 9 1 3 0) { testing .connect none with nextNumber := 42 }) =
      some (.clamped, [0, 42, 2]) ∧
    (after (.startTest 7 5 2 9 1 3 0) { testing .connect none with nextNumber := 42 }).queue.getLast? =
      some { waiting 42 4 3 with reach := .long, avg := 6, allowDrop := false } := by decide +kernel

theorem test_cancel_test_of_running :
    answer (after (.cancelTest 7 1 1) (testing .pulse (some measD))) = some (.ok, [0, 40, 1, 2]) := by decide +kernel

theorem test_get_queue_position_zero_clamped :
    answer (after (.getQueue 7 0) (testing .listen (some measD))) =
      some (.clamped, [1, 0, 41, 1, 0, 40, 1, 0, 3, 0, 1, 4, 1, 1, 1, 1]) := by decide +kernel

theorem test_restore_engine_grants :
    (after (.restoreEngine 7 1)
      { State.reset with queue := [waiting 9 0 2], engines := Vector.replicate 4 { coldEngine with state := .outOfService } }).queue.map
      (·.state) = [.running 0] := by decide +kernel

theorem test_get_result_empty : answer (after (.getResult 7 1) State.reset) = some (.notFound, []) := by decide +kernel

theorem test_read_trace_filling : answer (after (.readTrace 7 1 0 0 0) (testing .pulse (some measD))) = some (.slotBusy, []) ∧
    answer (after (.readTrace 7 2 0 0 0) State.reset) = some (.notFound, []) := by decide +kernel

theorem test_release_trace_free : answer (after (.releaseTrace 7 8) State.reset) = some (.ok, [0, 0, 0, 0, 0]) := by
  decide +kernel

theorem test_fetch_reports_restarted :
    answer (after (.fetchReports 7) State.reset) = some (.ok, [1, 0, 0, 1, 1, 0]) ∧
    (after (.fetchReports 7) State.reset).reports = [] := by decide +kernel

/-- Port 1's entry stands unheld in the queue, and a FETCH_REPORTS is the next command. -/
def together : State :=
  { State.reset with
    reports := [.port { newEntry 0 coldWord with kinds := 0x010#9, stallCause := some .roleTie }],
    pending := [.fetchReports 9] }

/-- R162, second row, FETCH_REPORTS first: the entry is taken, and the notice appends a held one without kinds; the reply
of the FETCH_REPORTS carries the entry and empties nothing more. -/
theorem test_fetch_before_hold :
    let s := together.fetchNow
    let t := s.setReports (attachHold 0 40 coldWord s.reports)
    t.reports = [.port { newEntry 0 coldWord with hold := some 40 }] ∧
    answer (after (.fetchReports 9) t) = some (.ok, [1, 0, 0, 0, 1, 0, 0x10, 0, 0, 2]) ∧
    (after (.fetchReports 9) t).reports = t.reports ∧ (after (.fetchReports 9) t).fetch = none := by decide +kernel

/-- R162, second row, in either order: which one happens is the free value. -/
theorem test_fetch_meets_hold :
    (together.holdNotice 0 40 (some .stall)).fetch =
        (if Config.fetchFirst 0 = true then some together.takeReports.2 else none) ∧
      (together.holdNotice 0 40 (some .stall)).choices = 1 := by
  have a : together.fetchAtHand = true := by decide +kernel
  have b : holdWanted (together.profile 0) (some .stall) = true := by decide +kernel
  have c : together.fetch = none := rfl
  have d : together.choices = 0 := rfl
  cases h : Config.fetchFirst 0 <;>
    simp [State.holdNotice, b, State.meetFetch, a, c, d, h, State.fetchNow, State.takeReports, State.setFetch,
      State.setReports, State.setChoices]

theorem test_get_summary :
    (answer (after (.getSummary 7) (withPort 47 { upPort with flags := 1 }))).map (·.2) =
      some [0, 0, 0, 0, 0, 0x80, 0, 0, 0, 0, 0, 0x80, 0, 0, 0, 0, 0, 0, 0, 0, 0, 0, 0, 8] := by decide +kernel

/-! ### One step of each arrival and port timer -/

theorem test_energy_present_in_listen :
    let q := (after (.energyPresent 0) (withPort 0 listenPort)).port 0
    q.state = .offer ∧ q.exchangeTimer = some 1500 ∧ q.absence = false ∧ q.draws = 1 := by decide +kernel

theorem test_energy_absent_in_train :
    let q := (after (.energyAbsent 0) (withPort 0 (trainPort 1))).port 0
    q.state = .listen ∧ q.failCounts.s10g = 1 ∧ q.counters = coldCounters ∧ q.absence = true := by decide +kernel

/-- Chapter 1, E3: the partner has heard us, so the phase completes and P1 goes into sending with MORE 1. -/
theorem test_partner_word_completes_offer :
    (after (.partnerWord 4 (.offer (partnerOffer true)))
      (withPort 4 { offerPort with candidate := some (.offer (partnerOffer true), 2) })).port 4 =
      { extendPort with candidate := some (.offer (partnerOffer true), 3) } := by decide +kernel

/-- Chapter 1, E7: the last page is acknowledged and the port trains at S2G5 as FOLLOW for 2000 ms. -/
theorem test_partner_word_ends_extension :
    let w : PartnerWord := .page { tag := 34, data := 0x000102, more := false, parity := true, ack := some true }
    let q := (after (.partnerWord 4 w) (withPort 4
      { extendPort with
        pages := [⟨18, 0x00A002⟩], sending := some { page := some ⟨18, 0x00A002⟩, more := false, parity := true },
        lastParity := some true, partnerDone := true, candidate := some (w, 2) })).port 4
    q.state = .train ∧ q.training = some (.s2g5, .follow) ∧ q.trainTimer = some 2000 ∧ q.pages = [] := by decide +kernel

theorem test_training_converged :
    let q := (after (.trainingConverged 11 142 .swapAB 5) (withPort 11 (trainPort 1))).port 11
    q.state = .up ∧ q.link = some { speed := .s10g, role := .follow, margin := 142 } ∧ q.failCounts = noFailures ∧
      q.flags = 1 := by decide +kernel

/-- Chapter 2, E5: the second failure at S10G removes it. -/
theorem test_training_failed_removes_class :
    let q := (after (.trainingFailed 11) (withPort 11 (trainPort 1))).port 11
    q.state = .holdoff ∧ q.removed = 0b10000#5 ∧ q.holdoff = some 500 ∧ q.flags = 0b1100#9 := by decide +kernel

theorem test_training_timer_counts_one_failure :
    let q := (after (.trainingTimerExpiry 11) (withPort 11 (trainPort 0))).port 11
    q.state = .holdoff ∧ q.removed = 0 ∧ q.counters.trainFailures = 1 := by decide +kernel

/-- Chapter 3, W2: LINK_DOWN with cause SIGNAL_LOST, then the departure of an ARMED watch. -/
theorem test_signal_lost_trips_watch :
    let s := withPort 19 { upPort with watch := ⟨{ coldWord with link := true, speed := some .s10g }, 3, .armed⟩ }
    ((after (.signalLost 19) s).port 19).watch.state = .tripped ∧
    ((after (.signalLost 19) s).port 19).flags = 0x082#9 ∧
    (entryOf 19 (after (.signalLost 19) s).reports).map (·.kinds) = some 0x082#9 := by decide +kernel

theorem test_margin_sample_alarm :
    let q := (after (.marginSample 0 59) (withPort 0 upPort)).port 0
    q.marginLow = true ∧ q.flags = 0x040#9 ∧ q.samples = 1 := by decide +kernel

theorem test_exchange_timer_expiry :
    let q := (after (.exchangeTimerExpiry 0) (withPort 0 extendPort)).port 0
    q.state = .holdoff ∧ q.counters.exchangeTimeouts = 1 ∧ q.flags = 0x020#9 := by decide +kernel

theorem test_holdoff_wait_end : ((after (.holdoffWaitEnd 0) (withPort 0 { holdoffPort with energy := false })).port 0).state =
    .listen := by decide +kernel

theorem test_energy_absence_leaves_stalled :
    let q := (after (.energyAbsenceTimerExpiry 0)
      (withPort 0 { stalledPort with energy := false, absence := true, removed := 1 })).port 0
    q.state = .listen ∧ q.removed = 0 ∧ q.stallCause = none := by decide +kernel

/-- Chapter 4, E1: a recheck record of priority 1 is created and the timer loaded again. -/
theorem test_recheck_timer_expiry :
    let s := { testing .connect none with profiles := Vector.replicate 48 { defaultProfile with recheckS := 30 } }
    let t := after (.recheckTimerExpiry 2) (s.setRecheck 2 (some 30))
    t.queue.map (fun r => (r.number, r.priority, r.origin)) = [(40, 4, .request), (41, 1, .recheck)] ∧
      t.recheckOf 2 = some 30 ∧ t.nextNumber = 42 := by decide +kernel

theorem test_aging_stops_at_six :
    (after (.agingClockExpiry 41) { testing .connect none with queue := [waiting 41 2 5] }).queue = [waiting 41 2 6] ∧
    (after (.agingClockExpiry 41) { testing .connect none with queue := [waiting 41 2 6] }).queue = [waiting 41 2 6] := by
  decide +kernel

/-! ### One step of each engine event -/

theorem test_bus_check_pass : ((after (.busCheckPass 0) (testing .connect none)).engine 0).meas =
    some { measD with pair := .a } := by decide +kernel

theorem test_bus_check_fail_is_bus_fault :
    let t := after (.busCheckFail 0) (testing .connect none)
    (t.engine 0).state = .release ∧ (t.engine 0).faultPending = true ∧ t.slot 0 = .free ∧ t.queue = [] ∧
      (t.result 0).map (·.outcome) = some .busFault := by decide +kernel

/-- Chapter 7's listen: a sum of 55 over 16 samples (here thirteen of 3, two of 6 and one of 4) is baseline 3. -/
theorem test_listen_baseline :
    let x : List Sample := List.replicate 13 3 ++ [6, 6, 4]
    (((after (.listenAttemptEnd 0 (sameQuad x)) (testing .listen (some measD))).engine 0).meas.bind (·.baselines)) =
      some (sameQuad 3) := by decide +kernel

/-- R105, R114: the fourth noisy attempt on pair D makes all four pairs NOISY. -/
theorem test_listen_fourth_attempt_noisy :
    let t := after (.listenAttemptEnd 0 (sameQuad (sixteen 0 49))) (testing .listen (some { measD with attempt := 4 }))
    (t.result 0).map (·.outcome) = some .partnerActive ∧ (t.engine 0).state = .release := by decide +kernel

/-- R102: the spread of the fourth attempt stays with the pair until the test has ended. -/
theorem test_listen_fourth_attempt_spread :
    let t := after (.listenAttemptEnd 0 (sameQuad (sixteen 0 49)))
      (testing .listen (some { measD with attempt := 4, spread := some 50 }))
    (t.engine 0).meas.bind (·.spread) = some 49 := by decide +kernel

theorem test_listen_wait_end :
    ((after (.listenWaitEnd 0) (testing .listen (some { measD with waiting := true }))).engine 0).meas =
      some { measD with attempt := 2 } := by decide +kernel

/-- R107, R108: in PULSE, run FIRST of reach AUTO, pair D of port 1 is driven with 8 ns pulses, and no other pair and no
other port of the bank; in LISTEN nothing is driven. -/
theorem test_pulse_on_current_pair :
    (testing .pulse (some measD)).launching 0 = some { port := 0, pair := .d, ns := 8 } ∧
    (testing .pulse (some { measD with run := .rerun })).driven 0 .d = some 16 ∧
    (testing .pulse (some measD)).driven 0 .a = none ∧ (testing .pulse (some measD)).driven 1 .d = none ∧
    (testing .listen (some measD)).driven 0 .d = none := by decide +kernel

theorem test_launch_captured_sums :
    let m := { measD with sums := sameQuad (List.replicate 640 (-1)), baselines := some (sameQuad 0), spread := some 0 }
    let x := (after (.launchCaptured 0 (sameQuad (List.replicate 640 0x800#12))) (testing .pulse (some m))).engine 0
    x.state = .analyse ∧ x.meas.map (·.sums.d) = some (List.replicate 640 (-2049)) := by decide +kernel

/-- R111: a NORMAL first run of reach AUTO is pulsed again at LONG. -/
theorem test_analysis_done_reruns :
    let m := { measD with sums := sameQuad (List.replicate 640 0), baselines := some (sameQuad 0), spread := some 0, reps := 1 }
    let x := (after (.analysisDone 0) (testing .analyse (some m))).engine 0
    x.state = .pulse ∧ x.meas.map (fun m => (m.run, m.sums.a.length)) = some (.rerun, 1024) := by decide +kernel

theorem test_release_end_to_holdoff :
    let s := testing .release none
    let t := after (.releaseEnd 0) (s.setPort 0 { s.port 0 with enabled := true })
    t.bank 0 = none ∧ t.engine 0 = coldEngine ∧ (t.port 0).state = .holdoff ∧ (t.port 0).watch.state = .armed := by
  decide +kernel

/-- R98: an engine with its fault pending is withdrawn and reported. -/
theorem test_release_end_withdraws :
    let s := testing .release none
    let t := after (.releaseEnd 0) (s.setEngine 0 { s.engine 0 with faultPending := true })
    (t.engine 0).state = .outOfService ∧ t.reports = [.device { restart := some .powerOn, faults := 1 }] := by
  decide +kernel

/-! ### One step of each line event and start -/

theorem test_mrx_characters_of_a_frame :
    (after (.mrxCharacter 0xA5 false) State.reset).receiver = .frame none [] ∧
    (after (.mrxCharacter 0xA5 true) State.reset).receiver = .hunt := by decide +kernel

/-- R176: SYNC is A5h, start bit first, then the data bits 1 0 1 0 0 1 0 1 from the least significant, then the stop bit; a
low stop bit is a framing error. -/
theorem test_character_levels :
    characterLevels 0xA5 = [false, true, false, true, false, false, true, false, true, true] ∧
    characterOf [false, false, true, false, false, false, false, false, false, true] = some (0x02, false) ∧
    characterOf [false, false, true, false, false, false, false, false, false, false] = some (0x02, true) := by decide +kernel

/-- R176, R178: an IDLE sender leaves MTX high; a refusal's reply is SYNC, LEN 3, TAG, KIND, STATUS and the CRC. -/
theorem test_mtx :
    State.reset.mtx = .idle ∧ (after .resetAssert (after (.getPort 7 49) State.reset)).mtx = .idle ∧
    (let x : Reply := { tag := 7, kind := 0x87, status := .badPort, body := [] }
     (after (.getPort 7 49) State.reset).mtx = .levels (x.bytes.flatMap characterLevels) ∧
     x.bytes = [0xA5, 3, 7, 0x87, 0x82] ++ bytes16 (crc16 [3, 7, 0x87, 0x82])) := by decide +kernel

theorem test_gap_timer : (after .gapTimerExpiry { State.reset with receiver := .frame (some 2) [1, 2, 3] }).receiver = .hunt := by
  decide +kernel

/-- Chapter 11, E6: the INBOX_FULL reply overtakes the requests that wait. -/
theorem test_reply_sent_overflow_first :
    let s := { State.reset with
      sender := .sending ⟨1, 0x95, .ok, []⟩ none, overflow := some ⟨6, 0x88, .inboxFull, []⟩,
      inbox := List.replicate 4 ⟨2, 0x07, [5]⟩ }
    (after .replySent s).sender = .sending ⟨6, 0x88, .inboxFull, []⟩ none ∧ (after .replySent s).inbox.length = 4 := by
  decide +kernel

theorem test_reply_sent_warm_restart :
    let t := after .replySent { testing .pulse (some measD) with sender := .sending ⟨1, 0x82, .ok, [1]⟩ (some .warm) }
    t.lastCause = .warmRequest ∧ t.queue = [] ∧ (t.result 0).map (·.outcome) = some .aborted ∧ t.nextNumber = 41 ∧
      t.reports = [restartedEntry .warmRequest] := by decide +kernel

/-- R150: after a warm restart every slot is free and no engine has claimed one, also where it still releases. -/
theorem test_warm_restart_claims_nothing :
    let t := after .replySent { testing .pulse (some measD) with sender := .sending ⟨1, 0x82, .ok, [1]⟩ (some .warm) }
    (t.engine 0).state = .release ∧ (t.engine 0).job.map (·.slot) = some none ∧ t.slot 0 = .free ∧
      t.bank 0 = some { port := 0, engine := 0 } := by decide +kernel

theorem test_power_on : after .powerOn (testing .pulse (some measD)) = State.reset := by decide +kernel

theorem test_reset_assert :
    let t := after .resetAssert (withPort 0 upPort)
    t.resetLow = true ∧ t.reports = [] ∧ t.output 0 = .off ∧ t.attnLow = false ∧ (t.port 0).state = .disabled := by decide +kernel

theorem test_reset_release :
    let t := after .resetRelease (after .resetAssert State.reset)
    t.lastCause = .resetLine ∧ t.attnLow = true ∧ t.reports = [restartedEntry .resetLine] := by decide +kernel

theorem test_step_takes_front : step { State.reset with pending := [.resetAssert, .gapTimerExpiry] } =
    .next { after .resetAssert State.reset with pending := [.gapTimerExpiry] } := rfl

theorem test_no_table_words : decodeTableWord 16 0x1234 = none ∧ State.reset.withFetchWord 16 0x1234 = State.reset :=
  ⟨rfl, rfl⟩

theorem test_step_idles : step State.reset = .next State.reset := rfl

/-! ### Witnesses: for every statement with hypotheses, a state and operands that meet them, clause by clause -/

/-- The reset part's line is free (used by every statement about a request). -/
theorem witness_lineFree : State.reset.lineFree ∧ (testing .pulse (some measD)).lineFree ∧ State.reset.passDue = false ∧
    ∀ (p : PortId) (q : Port), (withPort p q).lineFree ∧ (withPort p q).passDue = false :=
  ⟨⟨rfl, rfl, rfl, rfl⟩, ⟨rfl, rfl, rfl, rfl⟩, rfl, fun _ _ => ⟨⟨rfl, rfl, rfl, rfl⟩, rfl⟩⟩

/-- The first and the last port, and the bytes next to them that name none. -/
theorem witness_portBytes : portIs 1 0 ∧ portIs 48 47 ∧ noPort 0 ∧ noPort 49 := ⟨rfl, rfl, .inl rfl, .inr (by decide)⟩

theorem witness_FreeLineServesRequestAtOnce :
    (Instr.loadPages 7 48 (List.replicate 60 ⟨1, 0⟩)).request = some (7, .loadPages 48 (List.replicate 60 ⟨1, 0⟩)) ∧
    (Request.loadPages 48 (List.replicate 60 ⟨1, 0⟩)).wf = true ∧ State.reset.lineFree :=
  ⟨rfl, by decide, rfl, rfl, rfl, rfl⟩

theorem witness_BodiesReadBack : (0x17#8).toNat > 0x16 ∧ bodyLength (0x16#8).toNat = some 0 ∧
    bodyLength (0x03#8).toNat = some 38 ∧ [1#8, 0].length = 2 + 4 * ([1#8, 0].getD 1 0).toNat := by decide

theorem witness_FrameCharactersAreTheCommand : State.reset.resetLow = false ∧ State.reset.receiver = .hunt ∧
    (List.replicate 242 (0#8)).length ≤ 242 ∧ (Instr.identify 255).request = some (255, .identify) ∧
    Request.identify.wf = true := by decide +kernel

theorem witness_ReceiverRules :
    (after .resetAssert State.reset).resetLow = true ∧
    ({ State.reset with receiver := .frame none [] } : State).receiver = .frame none [] ∧
    ([1#8, 2].length + 1 < 2 + 2 ∧ ¬[1#8, 2, 3].length + 1 < 2 + 2) ∧
    0#16 ≠ crc16 (Request.identify.frame 1).covered ∧ (Request.identify.frame 1).body.length ≤ 242 := by decide +kernel

/-- A bank that is joined to its port and one that is not; a trace that is current; a null page and a real one. -/
theorem witness_ReadRequestsShowTheState :
    portIs 1 0 ∧ State.reset.lineFree ∧ (testing .pulse (some measD)).bankSwitch 0 = some 0 ∧
    (testing .release none).bankSwitch 0 = none ∧
    (let q := Quad.mk (finished .a .normal) (finished .b .normal) (finished .c .normal) (finished .d .normal)
     let r : ResultRecord :=
       { port := 0, number := 40, origin := .request, reach := .auto, avg := 0, velocity := 660, outcome := .complete,
         disposition := .held, slot := some 0, pairs := q }
     ((testing .pulse (some measD)).endTest 0 .complete q).traceCurrent r = true ∧
       (testing .pulse (some measD)).traceCurrent r = false) ∧
    ((extendPort.pageWord 4).map (·.tag)) = some 17 ∧
    (({ extendPort with sending := some { page := none, more := true, parity := false } } : Port).pageWord 4).map (·.tag) =
      some 0 := ⟨rfl, ⟨rfl, rfl, rfl, rfl⟩, by decide +kernel⟩

theorem witness_InboxAndSender (x : Reply) (f : Frame) :
    (after .resetAssert State.reset).resetLow = true ∧
    (let s : State := { State.reset with sender := .sending x none, inbox := List.replicate 3 f }
     s.resetLow = false ∧ s.inbox.length < 4) ∧
    (let s : State := { State.reset with sender := .sending x none, inbox := List.replicate 4 f }
     4 ≤ s.inbox.length ∧ s.overflow = none) ∧
    parseRequest 0x01 [] = .request .identify ∧ parseRequest 0x17 [] = .unknownKind ∧ parseRequest 0x01 [0] = .badLength :=
  ⟨rfl, ⟨rfl, by simp⟩, ⟨by simp, rfl⟩, rfl, rfl, rfl⟩

/-- A part whose report queue holds one entry, held for test 40: sound, and the record shows the mark. -/
theorem witness_ReplyLayouts :
    1 ≤ (1 : Nat) ∧ ((testing .pulse (some measD)).queueBody 1).length = 16 ∧
    (let s := { State.reset with reports := [.port { newEntry 0 coldWord with hold := some 40 }] }
     s.reportsSound ∧ s.holdMark (waiting 40 0 4) = true ∧ s.holdMark (waiting 41 0 4) = false) := by
  refine ⟨by decide, by decide +kernel, ⟨⟨by decide, fun x h => ?_⟩, by decide, by decide⟩⟩
  obtain rfl : x = _ := List.mem_singleton.mp h
  unfold Entry.sound; decide

theorem witness_ConditionWordReadsBack : decodeWord 0x5800 = some
      { coldWord with speed := some .s10g, role := some .follow } ∧ decodeWord 0x6000 = none ∧ decodeWord 0x0C00 = none := by
  decide +kernel

theorem witness_BadPortRefused : (Instr.getPort 7 49).request = some (7, .getPort 49) ∧ (Request.getPort 49).wf = true ∧
    namedPort (.getPort 49) = some 49 ∧ noPort 49 ∧ noPort 0 := ⟨rfl, rfl, rfl, .inr (by decide), .inl rfl⟩

theorem witness_SetAdminByLinkState : (withPort 47 upPort).lineFree ∧ (withPort 47 upPort).passDue = false ∧ portIs 48 47 ∧
    2 ≤ (2#8).toNat := ⟨⟨rfl, rfl, rfl, rfl⟩, rfl, rfl, by decide⟩

theorem witness_PortRestartForgets : (testing .pulse (some measD)).lineFree ∧ (testing .pulse (some measD)).passDue = false ∧
    portIs 1 0 ∧ (testing .pulse (some measD)).bank (bankOf 0) = some { port := 0, engine := 0 } :=
  ⟨⟨rfl, rfl, rfl, rfl⟩, rfl, rfl, by decide +kernel⟩

/-- SPEED 5 and ROLE 2 are the last defined codes, SPEED 6 and ROLE 3 the first undefined ones. -/
theorem witness_SetWatchComparesFromUnarmed :
    6 ≤ ((0x6000#16).extractLsb' 12 3).toNat ∧ ((0x0C00#16).extractLsb' 10 2).toNat = 3 ∧
    encodeWord { coldWord with speed := some .s10g, role := some .follow } = 0x5800#16 := by decide

theorem witness_PageRequests : (List.replicate 17 (⟨1, 0⟩ : Page)).length ≤ 60 ∧ 16 < (List.replicate 17 (⟨1, 0⟩ : Page)).length ∧
    (∃ g ∈ [(⟨0, 0⟩ : Page)], g.tag = 0) ∧ (∀ g ∈ List.replicate 16 (⟨255, 0⟩ : Page), g.tag ≠ 0) :=
  ⟨by decide, by decide, ⟨⟨0, 0⟩, by decide, rfl⟩, by decide⟩

theorem witness_ProfileClamp : rawValid (Profile.raw defaultProfile) = true ∧
    rawValid { Profile.raw defaultProfile with downshiftAfter := 5, velocity := 901, hardLevel := 160 } = true := by
  decide +kernel

/-- A range of all ports, the empty and backward ranges, and a record that passes every check of codes. -/
theorem witness_SetProfileWritesRange : State.reset.lineFree ∧ noPort 49 ∧ (1#8).toNat < (2#8).toNat ∧ portIs 1 0 ∧
    portIs 48 47 ∧ (0 : PortId) ≤ 47 ∧
    (let r := Profile.raw { defaultProfile with forced := .s10g, autoReach := .auto, allowed := 1 }
     r.linkMode.toNat ≤ 1 ∧ 1 ≤ r.forcedSpeed.toNat ∧ r.forcedSpeed.toNat ≤ 5 ∧ r.roleClass.toNat ≤ 3 ∧
      r.autoReach.toNat ≤ 3 ∧ r.autoCapture.toNat ≤ 1 ∧ r.holdReports.toNat ≤ 1 ∧ r.recheckMode.toNat ≤ 1 ∧
      r.allowedSpeeds &&& 0x1F#8 ≠ 0 ∧ r.autoTriggers &&& 0x0169#16 = 0) :=
  ⟨⟨rfl, rfl, rfl, rfl⟩, .inr (by decide), by decide, rfl, rfl, by decide, by decide +kernel⟩

theorem witness_ProfileReadsBack : defaultProfile.sound := by unfold Profile.sound; decide +kernel

/-- Port 5 has no record and number 65535 is the next and held, so number 1 is taken; port 1 has a record. -/
theorem witness_StartTestByItsChecks :
    let s : State := { State.reset with nextNumber := 65535, queue := [waiting 65535 0 7] }
    s.lineFree ∧ s.queueSound ∧ portIs 5 4 ∧ Reach.auto.code = (3#8).toNat ∧ (1#8).toNat ≤ 1 ∧ 3 < (4#8).toNat ∧
      (∀ r ∈ s.queue, r.port ≠ 4) ∧ (s.port 4).state ≠ .up ∧ s.nextFree 1 ∧ waiting 65535 0 7 ∈ s.queue ∧
      ∃ e, reaches e (bankOf 4) = true ∧ (s.engine e).state ≠ .outOfService :=
  ⟨⟨rfl, rfl, rfl, rfl⟩, by unfold State.queueSound; decide, rfl, rfl, by decide, by decide, by decide, by decide +kernel,
    ⟨1, rfl, by decide, fun j hj => ⟨waiting 65535 0 7, List.mem_cons_self, by
      obtain rfl : j = 0 := by omega
      rfl⟩⟩, List.mem_cons_self, ⟨0, by decide, by decide +kernel⟩⟩

/-- START_TEST of an UP port that may not be dropped, and of one no engine reaches. -/
theorem witness_StartTestByItsChecks_refused :
    ((withPort 0 upPort).port 0).state = .up ∧
    (let s : State := { State.reset with engines := Vector.replicate 4 { coldEngine with state := .outOfService } }
     s.queueSound ∧ ∀ e, reaches e (bankOf 0) = true → (s.engine e).state = .outOfService) :=
  ⟨by decide +kernel, by unfold State.queueSound; decide, by decide +kernel⟩

theorem witness_CancelTestByRecordState :
    let s : State := { testing .pulse (some measD) with queue := [{ waiting 40 0 4 with state := .running 0 }, waiting 65535 47 0] }
    s.lineFree ∧ s.queueSound ∧ 1 < (2#8).toNat ∧ 48 < (49#16).toNat ∧ (∀ r ∈ s.queue, r.number ≠ (1#16).toNat) ∧
      (∀ r ∈ s.queue, r.port.val + 1 ≠ (2#16).toNat) ∧ waiting 65535 47 0 ∈ s.queue ∧
      (65535 = (0xFFFF#16).toNat ∧ (47 : PortId).val + 1 = (48#16).toNat) :=
  ⟨⟨rfl, rfl, rfl, rfl⟩, by unfold State.queueSound; decide, by decide, by decide, by decide, by decide, by decide,
    by decide⟩

theorem witness_SubmissionsAndQueueTimers :
    let s : State := { State.reset with queue := [waiting 40 0 5], nextNumber := 41 }
    s.queueSound ∧ (∀ r ∈ s.queue, r.port ≠ 1) ∧ waiting 40 0 5 ∈ s.queue ∧ s.nextFree 41 ∧
      (∃ e, reaches e (bankOf 1) = true ∧ (s.engine e).state ≠ .outOfService) ∧ s.recheckOf 0 = none ∧
      (s.setRecheck 0 (some 65535)).recheckOf 0 = some 65535 :=
  ⟨by unfold State.queueSound; decide, by decide, by decide, ⟨0, rfl, by decide, fun j hj => absurd hj (by omega)⟩,
    ⟨0, by decide, by decide +kernel⟩, by decide +kernel, by decide +kernel⟩

theorem witness_GrantPassChoices : ({ State.reset with queue := [waiting 40 0 5] } : State).passOnce.isSome = true ∧
    State.reset.passOnce = none := by decide +kernel

/-- An UP port with and without allow_drop, no capture, every slot but the last taken. -/
theorem witness_GrantSteps :
    ((withPort 0 upPort).port (waiting 40 0 5).port).state = .up ∧ (waiting 40 0 5).allowDrop = true ∧
    ({ waiting 40 0 5 with allowDrop := false } : TestRecord).allowDrop = false ∧
    (let s : State := { State.reset with slots := (Vector.replicate 8 (.filling 1 9)).set 7 .free }
     s.slot 7 = .free ∧ ∀ u, u < 7 → s.slot u ≠ .free) ∧
    (∀ t, ({ State.reset with slots := Vector.replicate 8 (.filling 1 9) } : State).slot t ≠ .free) := by decide +kernel

theorem witness_TestEndSteps :
    let s := testing .pulse (some measD)
    s.queueSound ∧ ((s.engine 0).job.map (·.number)) = some 40 ∧ (∃ r ∈ s.queue, r.number = 40) ∧
      (s.engine 0).state = .pulse ∧ (s.engine 1).state = .idle :=
  ⟨by unfold State.queueSound; decide, by decide +kernel, ⟨_, List.mem_cons_self, rfl⟩, by decide +kernel,
    by decide +kernel⟩

theorem witness_EventsJoinEntries (x : PortEntry) :
    (∀ y ∈ State.reset.reports, y.owner ≠ some 0) ∧ (∀ y ∈ ([] : List Entry), y.owner ≠ none) ∧
    State.reset.reports ++ [.port x] = State.reset.reports ++ .port x :: [] := ⟨by decide, by decide, rfl⟩

theorem witness_HoldsComeAndGo :
    (State.reset.profile 0).holdReports = true ∧ hasKind (State.reset.profile 0).reportEnables .stall = true ∧
    hasKind (State.reset.profile 0).reportEnables .trainFail = false ∧ (∀ y ∈ State.reset.reports, y.owner ≠ some 0) ∧
    together.fetchAtHand = true ∧ together.fetch = none ∧ State.reset.fetchAtHand = false ∧
    (let r := leftAfter 6 together.reports
     ∀ y ∈ r, y.owner ≠ some 0) := by decide +kernel

theorem witness_FetchReportsTakesSix : together.lineFree ∧ together.fetch = none ∧
    together.fetchNow.lineFree ∧ together.fetchNow.fetch = some together.takeReports.2 ∧
    (Entry.port { newEntry 0 coldWord with kinds := 1#9 }).sound ∧
    (Entry.port { newEntry 0 coldWord with kinds := 2#9, downCause := some .admin }).sound :=
  ⟨⟨rfl, rfl, rfl, rfl⟩, rfl, ⟨rfl, rfl, rfl, rfl⟩, rfl, ⟨rfl, rfl, rfl, fun h => absurd h (by decide)⟩, rfl, rfl, rfl,
    fun h => absurd h (by decide)⟩

theorem witness_ReadTraceByItsChecks (h : TraceHeader) (c : Quad (List Int)) :
    let s : State := (testing .pulse (some measD)).setSlot 7 (.held h c)
    s.lineFree ∧ 8 < (9#8).toNat ∧ 3 < (4#8).toNat ∧ (8#8).toNat = (7 : SlotId).val + 1 ∧ (3#8).toNat = Pair.d.code ∧
      s.slot 7 = .held h c ∧ s.slot 1 = .free ∧ s.slot 0 = .filling 0 40 :=
  ⟨⟨rfl, rfl, rfl, rfl⟩, by decide, by decide, rfl, rfl, rfl, rfl, rfl⟩

theorem witness_ReleaseTraceBySlotState : State.reset.lineFree ∧ 8 < (9#8).toNat ∧ (8#8).toNat = (7 : SlotId).val + 1 :=
  ⟨⟨rfl, rfl, rfl, rfl⟩, by decide, rfl⟩

theorem offerPort_exchangeSound : offerPort.exchangeSound :=
  ⟨(fun h => nomatch h), fun _ => ⟨rfl, by decide⟩, (fun _ h => nomatch h), (fun h => nomatch h), (fun h => nomatch h)⟩

theorem extendPort_exchangeSound : extendPort.exchangeSound :=
  ⟨(fun h => nomatch h), fun _ => ⟨rfl, by decide⟩, (fun h => nomatch h), fun _ => ⟨rfl, rfl⟩, by
    rintro - x g h hg
    obtain rfl : _ = x := Option.some.inj h
    exact hg⟩

theorem witness_EnergyArrivals : (withPort 0 offerPort).resetLow = false ∧ offerPort.stateSound ∧ offerPort.exchangeSound :=
  ⟨rfl, by unfold Port.stateSound; decide, offerPort_exchangeSound⟩

theorem witness_ArrivalsOutOfPlace : (after .resetAssert State.reset).resetLow = true ∧ State.reset.passDue = false ∧
    (State.reset.port 0).state ≠ .offer ∧ (State.reset.port 0).state ≠ .extend ∧ (State.reset.port 0).state ≠ .train ∧
    (State.reset.port 0).state ≠ .up ∧ (State.reset.port 0).exchangeTimer = none ∧ (State.reset.port 0).trainTimer = none ∧
    (State.reset.port 0).holdoff = none ∧ (State.reset.port 0).absence = false := by decide +kernel

/-- A port in OFFER or EXTEND at each of the four places of the filter. -/
theorem witness_PartnerWordFilter (w : PartnerWord) (n : Nat) :
    let s := withPort 0 { offerPort with candidate := some (w, n) }
    s.resetLow = false ∧ (s.port 0).state = .offer ∧ (s.port 0).candidate = some (w, n) ∧ s.passDue = false ∧
      ((withPort 0 extendPort).port 0).candidate = none := ⟨rfl, rfl, rfl, rfl, rfl⟩

theorem witness_OfferPhase (w : PartnerWord) :
    (withPort 0 { offerPort with candidate := some (w, 2) }).accepts 0 w { offerPort with candidate := some (w, 3) } ∧
    offerPort.state = .offer ∧ (offerPort.ownOffer.map (·.hasPages)) = some true ∧ (partnerOffer true).heard = true ∧
    (partnerOffer false).heard = false := ⟨⟨rfl, rfl, rfl⟩, rfl, rfl, rfl, rfl⟩

theorem witness_ExtensionPages (w : PartnerWord) :
    (withPort 0 { extendPort with candidate := some (w, 2) }).accepts 0 w { extendPort with candidate := some (w, 3) } ∧
    extendPort.state = .extend ∧ extendPort.stateSound ∧
    (let g : PageWord := { tag := 0, data := 0, more := false, parity := false, ack := some false }
     let q := { extendPort with pages := [⟨17, 0⟩], sending := some { page := some ⟨17, 0⟩, more := false, parity := false } }
     ((q.afterAck g).afterPage g).localDone = true ∧ ((q.afterAck g).afterPage g).partnerDone = true) ∧
    (let g : PageWord := { tag := 0, data := 0, more := true, parity := false, ack := some false }
     ((extendPort.afterAck g).afterPage g).localDone = false) :=
  ⟨⟨rfl, rfl, rfl⟩, rfl, by unfold Port.stateSound; decide, by decide, by decide⟩

/-- Offers with no common speed, with S2G5 the highest common one, and that force, prefer, or tie in class and seed. -/
theorem witness_ResolutionOfSpeedAndRole :
    let o : OfferWord := partnerOffer true
    o.speeds &&& 0b11000#5 = 0 ∧ hasSpeed (o.speeds &&& 0x1F#5) .s2g5 = true ∧
      (∀ c' : Speed, Speed.s2g5.idx < c'.idx → hasSpeed (o.speeds &&& 0x1F#5) c' = false) ∧
      roleForces .forceLead = true ∧ roleForces o.roleClass = false ∧ roleAsked o.roleClass = .lead ∧
      (76#10).toNat < o.seed.toNat ∧ 6 ≤ ({ offerPort with tie := 6 } : Port).tie ∧ offerPort.tie < 6 ∧
      offerPort.stateSound :=
  ⟨by decide, by decide, fun c' h => by cases c' <;> first | rfl | exact absurd h (by decide), rfl, rfl, rfl, by decide,
    by decide, by decide, by unfold Port.stateSound; decide⟩

/-- A first failure, a second one that removes S10G, and one at the only class left. -/
theorem witness_TrainingOutcomes :
    (trainPort 0).state = .train ∧ (trainPort 0).training = some (.s10g, .follow) ∧ (trainPort 0).trainTimer ≠ none ∧
    bump 255 ((trainPort 0).failCounts.get .s10g) < defaultProfile.downshiftAfter ∧
    defaultProfile.downshiftAfter ≤ bump 255 ((trainPort 1).failCounts.get .s10g) ∧
    (∃ c' : Speed, c'.idx < Speed.s10g.idx ∧ hasSpeed (defaultProfile.allowed &&& ~~~(trainPort 1).removed) c' = true) ∧
    (∀ c' : Speed, c'.idx < Speed.s10g.idx → hasSpeed (0b10000#5 &&& ~~~(trainPort 1).removed) c' = false) :=
  ⟨rfl, rfl, by decide, by decide, by decide, ⟨.s100, by decide, by decide⟩,
    fun c' h => by cases c' <;> first | rfl | exact absurd h (by decide)⟩

/-- A sample that drops the link needs margin_drop above it and four samples before it. -/
theorem witness_LiveLinkArrivals : upPort.state = .up ∧ upPort.link = some { speed := .s10g, role := .lead, margin := 142 } ∧
    (let m := (7 * 40 + 40 + 4) / 8
     let r := { defaultProfile with marginDrop := 41 }
     r.marginDrop ≠ 0 ∧ 5 ≤ bump 65535 4 ∧ m < r.marginDrop ∧ m < r.marginAlarm ∧ ¬m < 40) := by decide +kernel

theorem witness_PortTimers :
    offerPort.exchangeTimer ≠ none ∧ offerPort.state = .offer ∧ holdoffPort.holdoff ≠ none ∧ holdoffPort.state = .holdoff ∧
    listenPort.absence = true ∧ listenPort.state = .listen ∧
    (let q := { stalledPort with energy := false, absence := true }
     q.absence = true ∧ q.state = .stalled) := by decide +kernel

theorem witness_EventsAndTheWatch :
    let q := { upPort with watch := ⟨{ coldWord with link := true }, 1, .armed⟩ }
    q.state ≠ .test ∧ q.word ≠ coldWord ∧ matchesWord q.watch.mask q.watch.expectation q.word = true ∧
      matchesWord holdoffPort.watch.mask holdoffPort.watch.expectation holdoffPort.word = true ∧
      matchesWord 1 { coldWord with link := true } holdoffPort.word = false := by decide +kernel

theorem witness_BusChecksAndPairEnds :
    ((testing .connect none).engine 0).state = .connect ∧ ((testing .pulse none).engine 0).state ≠ .connect ∧
    Pair.d.code = Pair.c.code + 1 ∧
    ((testing .listen (some measD)).engine 0).finished = [finished .a .noisy, finished .b .noisy, finished .c .noisy] ∧
    (finished .d .noisy).pair = .d := by decide +kernel

/-- The listen of chapter 7 on all pairs: baseline 3 of a sum of 55, spread 3; its samples are within the noise limit, and
a spread of 49 is just outside. -/
theorem witness_ListenAttempts :
    let x : List Sample := List.replicate 13 3 ++ [6, 6, 4]
    ((testing .listen (some measD)).engine 0).state = .listen ∧
      ((testing .listen (some measD)).engine 0).meas = some measD ∧ listenFits (sameQuad x) = true ∧
      (x.map BitVec.toInt).sum = 55 ∧ (16 * 3 ≤ (55 : Int) ∧ (55 : Int) < 16 * 3 + 16) ∧
      ((6#12) ∈ x ∧ (3#12) ∈ x ∧ ((3 : Nat) : Int) = (6#12).toInt - (3#12).toInt ∧
        ∀ v ∈ x, (3#12).toInt ≤ v.toInt ∧ v.toInt ≤ (6#12).toInt) ∧ measD.waiting = false ∧ 3 ≤ snapshot.noiseLimit ∧
      snapshot.noiseLimit < 49 ∧ measD.attempt < 4 := by decide +kernel

/-- The first of two launches; a NORMAL first AUTO run; and a run that is not one. -/
theorem witness_LaunchesAndAnalysis :
    let m := { measD with sums := sameQuad (List.replicate 640 0), baselines := some (sameQuad 0), spread := some 0 }
    let j : Job := { port := 0, number := 40, reach := .auto, avg := 0, capture := true, slot := some 0, snap := snapshot }
    ((testing .pulse (some m)).engine 0).job = some j ∧ ((testing .pulse (some m)).engine 0).state = .pulse ∧
      captureFits (sameQuad (List.replicate 640 (0 : Sample))) = true ∧ (runResult j m).cls = .normal ∧
      { m with run := .rerun }.run = .rerun ∧ m.spread = some 0 := by decide +kernel

/-- Index 244 of chapter 7's open at 47 m, and a negative product. -/
theorem witness_CompensatedValues :
    ((2 : Int) ^ 2 * 410 ≤ 1643 ∧ (1643 : Int) < 2 ^ 2 * (410 + 1)) ∧
    (16 * (1634 - 1024) ≤ 40 * 244 ∧ 40 * 244 < 16 * (1634 - 1024) + 16 ∧ 1024 ≤ 1634) ∧
    (0 ≤ ((410 : Int) - 3) * 1634 ∧ 1024 * 649 ≤ ((410 : Int) - 3) * 1634 ∧ ((410 : Int) - 3) * 1634 < 1024 * 649 + 1024) ∧
    ((-407 : Int) * 1634 < 0 ∧ (-407 : Int) * 1634 ≤ 1024 * (-649) ∧ 1024 * (-649) < (-407 : Int) * 1634 + 1024) := by
  decide

/-- A pair that reaches cross_level, and none that does with and without an echo of the pulsed pair. -/
theorem witness_EchoClasses :
    (Pair.b ≠ .a ∧ 8 ≤ 9 ∧ (row 20 [(9, -500)])[9]? = some (-500) ∧ snapshot.crossLevel ≤ (-500 : Int).natAbs) ∧
    (∀ v ∈ row 20 [(9, 499)], v.natAbs < snapshot.crossLevel) ∧ (∀ v ∈ row 20 [(9, 159)], v.natAbs < snapshot.detectLevel) ∧
    ((row 20 [(9, 160)])[9]? = some 160 ∧ snapshot.detectLevel ≤ (160 : Int).natAbs ∧
      ∀ v ∈ (row 20 [(9, 160)]).take 9, v.natAbs < snapshot.detectLevel) := by decide +kernel

/-- The largest velocity and window, and a run that is OPEN. -/
theorem witness_DistanceAndPeakBounds :
    let j : Job := { port := 0, number := 40, reach := .short, avg := 0, capture := false, slot := none,
                     snap := { snapshot with velocity := 900, lossSlope := 0 } }
    let m := { measD with baselines := some (sameQuad 0),
                          sums := { sameQuad (row 256 []) with d := row 256 [(255, 1100)] } }
    j.snap.velocity ≤ 900 ∧ m.sums.d.length ≤ 1024 ∧ (runResult j m).cls = .opened ∧
      (runResult j m).echo = some { i0 := 255, peak := 1100, distance := 6719 } := by decide +kernel

theorem witness_EnginesLeaveAndReturn :
    ((testing .release none).engine 0).state = .release ∧ ((testing .release none).engine 0).faultPending = false ∧
    ({ engineIn .release none with faultPending := true } : Engine).faultPending = true ∧
    ((testing .pulse none).engine 0).state ≠ .release ∧ (5#8).toNat > 4 ∧ (4#8).toNat = (3 : EngineId).val + 1 := by
  decide +kernel

theorem witness_ColdStarts (x : Reply) :
    ({ State.reset with sender := .sending x (some .cold) } : State).sender = .sending x (some .cold) := rfl

theorem witness_WarmRestart (x : Reply) :
    ({ testing .pulse (some measD) with sender := .sending x (some .warm) } : State).sender = .sending x (some .warm) ∧
    (testing .pulse (some measD)).lineFree ∧ 2 ≤ (2#8).toNat := ⟨rfl, ⟨rfl, rfl, rfl, rfl⟩, by decide⟩

/-! Witnesses of the invariants' own hypotheses: the reset part with one command waiting, which steps. -/

/-- The reset part with one command waiting. -/
def starting : State := { State.reset with pending := [.gapTimerExpiry] }

theorem starting_port (p : PortId) : starting.port p = coldPort 0 := by
  simp [starting, State.port, State.reset]

theorem witness_StepKeepsTheLine : starting.lineSound ∧ step starting = .next State.reset :=
  ⟨⟨by decide, by decide, fun _ => ⟨rfl, rfl⟩, (fun h => nomatch h), trivial⟩, rfl⟩

theorem witness_StepKeepsThePorts :
    starting.profilesSound ∧ starting.setsSound ∧ starting.portsSound ∧ step starting = .next State.reset := by
  refine ⟨fun p => ?_, fun p => ?_, fun p => ?_, rfl⟩
  · have h : starting.profile p = defaultProfile := by simp [starting, State.profile, State.reset]
    rw [h]; exact witness_ProfileReadsBack
  · have h : starting.profile p = defaultProfile := by simp [starting, State.profile, State.reset]
    rw [h, starting_port]; decide
  · rw [starting_port]
    refine ⟨by unfold Port.stateSound; decide, ?_, ?_⟩
    · simp [Port.exchangeSound, coldPort, LinkState.exchanging]
    · refine ⟨by decide, by decide, by decide, by decide, by decide, (fun _ _ h => nomatch h), (fun _ h => nomatch h),
        (fun _ h => nomatch h), by decide, fun c => by cases c <;> decide, by decide⟩

theorem witness_StepKeepsQueueAndReports :
    starting.profilesSound ∧ starting.queueSound ∧ starting.recordsInRange ∧ starting.reportsSound ∧ starting.holdsSound ∧
      starting.fetchSound ∧ step starting = .next State.reset :=
  by
  refine ⟨witness_StepKeepsThePorts.1, by unfold State.queueSound; decide, by unfold State.recordsInRange; decide,
    ⟨by decide, fun x h => ?_⟩, fun x n h => ?_, (fun _ h => nomatch h), rfl⟩
  · obtain rfl : x = _ := List.mem_singleton.mp h
    exact .inl rfl
  · have h : Entry.port x = restartedEntry .powerOn := List.mem_singleton.mp h
    cases h

/-- A part whose FETCH_REPORTS was taken in the step before: sound, and the next step answers it. -/
theorem witness_StepKeepsQueueAndReports_fetch :
    let s : State := { starting with pending := [.fetchReports 9], fetch := some { given := [], unheld := 0, held := 0 } }
    s.fetchSound ∧ s.fetch ≠ none ∧ step s = .next (after (.fetchReports 9) { s with pending := [] }) :=
  ⟨fun x h => by cases h; exact ⟨by decide +kernel, by decide, fun y h => nomatch h⟩, by decide, rfl⟩

theorem witness_StepKeepsTheTests : starting.queueSound ∧ starting.testsSound ∧ step starting = .next State.reset := by
  have he : ∀ e, starting.engine e = coldEngine := fun e => by simp [starting, State.engine, State.reset]
  have hb : ∀ b, starting.bank b = none := fun b => by simp [starting, State.bank, State.reset]
  have ht : ∀ t, starting.slot t = .free := fun t => by simp [starting, State.slot, State.reset]
  refine ⟨by unfold State.queueSound; decide, ⟨fun e => ?_, fun b u h => ?_, fun p => ?_, ?_, ?_⟩, rfl⟩
  · unfold State.engineSound; rw [he]; exact ⟨rfl, rfl, rfl⟩
  · rw [hb] at h; cases h
  · unfold State.testSound; rw [starting_port]; simp [hb, coldPort]
  · refine ⟨by decide, fun e j h => ?_⟩
    rw [he] at h; cases h
  · refine ⟨fun t e n h => ?_, fun e j t h => ?_⟩
    · rw [ht] at h; cases h
    · rw [he] at h; cases h

theorem witness_StepSettlesTheArbiter : starting.settled ∧ step starting = .next State.reset :=
  ⟨⟨rfl, (fun _ h => nomatch h)⟩, rfl⟩

/-- With no engine busy and no port in TEST, engines, banks and ports agree. -/
theorem withPort_testsSound {q : Port} (h : q.state ≠ .test) : (withPort 0 q).testsSound := by
  have he : ∀ e, (withPort 0 q).engine e = coldEngine := fun e => by simp [withPort, State.engine, State.setPort, State.reset]
  have hb : ∀ b, (withPort 0 q).bank b = none := fun b => by simp [withPort, State.bank, State.setPort, State.reset]
  have ht : ∀ t, (withPort 0 q).slot t = .free := fun t => by simp [withPort, State.slot, State.setPort, State.reset]
  refine ⟨fun e => ?_, fun b u h => ?_, fun p => ?_, ⟨fun r h => (nomatch h), fun e j h => ?_⟩,
    ⟨fun t e n h => ?_, fun e j t h => ?_⟩⟩
  · unfold State.engineSound; rw [he]; exact ⟨rfl, rfl, rfl⟩
  · rw [hb] at h; cases h
  · unfold State.testSound
    have hp : ((withPort 0 q).port p).state ≠ .test := by
      simp only [withPort, State.port, State.setPort, State.reset, Fin.getElem_fin, Vector.getElem_set]
      split
      · exact h
      · simp [coldPort]
    simp [hb, hp]
  · rw [he] at h; cases h
  · rw [ht] at h; cases h
  · rw [he] at h; cases h

/-- A port that comes UP, and one that leaves UP. -/
theorem witness_LinkChangesAreCounted :
    let s := withPort 0 (trainPort 0)
    s.testsSound ∧ (withPort 0 upPort).testsSound ∧
      exec (.trainingConverged 0 142 .straight 0) s = .next (after (.trainingConverged 0 142 .straight 0) s) ∧
      (s.port 0).state ≠ .up ∧ ((after (.trainingConverged 0 142 .straight 0) s).port 0).state = .up ∧
      ((withPort 0 upPort).port 0).state = .up ∧ ((after (.signalLost 0) (withPort 0 upPort)).port 0).state ≠ .up :=
  ⟨withPort_testsSound (by decide), withPort_testsSound (by decide), rfl, by decide +kernel, by decide +kernel,
    by decide +kernel, by decide +kernel⟩

theorem witness_OtherPortsAreLeftAlone :
    (withPort 0 upPort).settled ∧ (withPort 0 upPort).queueSound ∧ (1 : PortId) ≠ 0 ∧
      (withPort 0 upPort).fetchAtHand = false ∧
      exec (.signalLost 0) (withPort 0 upPort) = .next (after (.signalLost 0) (withPort 0 upPort)) :=
  ⟨⟨rfl, (fun _ h => nomatch h)⟩, by unfold State.queueSound; decide, by decide, rfl, rfl⟩

end Sys2Proof.Tests
end

section
/-! SUPPORT. The entries to link states, as the explicit records of Safety.lean, and the exchange's own steps. -/

namespace Sys2Proof.Machine.Port

/-! ### Entries (R3, R5, R6, R8, R13, R26, R32, R33, R35, R44) -/

theorem enterStalled_eq (c : StallCause) (q : Port) : q.enterStalled c = q.stalling c := rfl

theorem enterTrain_eq (c : Speed) (x : Role) (q : Port) : q.enterTrain c x = q.trainingAt c x := rfl

theorem clearMemory_eq (q : Port) : q.clearMemory = q.forgetful := rfl

/-- What an entry to OFFER takes as it finds it: no training, link, margin, holdoff or stall value is held. -/
structure Unlinked (q : Port) : Prop where
  training : q.training = none
  trainTimer : q.trainTimer = none
  link : q.link = none
  smoothed : q.smoothed = none
  samples : q.samples = 0
  marginLow : q.marginLow = false
  holdoff : q.holdoff = none
  stallCause : q.stallCause = none
  returnToStall : q.returnToStall = false

/-- A value that is held exactly in one link state. -/
theorem isSome_eq_beq_iff {α : Type} {o : Option α} {x y : LinkState} :
    o.isSome = (x == y) ↔ (o.isSome = true ↔ x = y) := by
  rw [Bool.eq_iff_iff, beq_iff_eq]

/-- A sound port in LISTEN, OFFER or EXTEND holds none of these values. -/
theorem stateSound.unlinked {q : Port} (h : q.stateSound)
    (hs : q.state = .listen ∨ q.state = .offer ∨ q.state = .extend) : q.Unlinked := by
  simp only [stateSound, isSome_eq_beq_iff] at h
  obtain ⟨htr, htt, hl, hsm, hm, hsa, -, -, hh, -, -, hc, hret, -⟩ := h
  rcases hs with e | e | e <;> simp [e] at htr htt hl hsm hm hsa hh hc hret <;>
    exact ⟨htr, htt, hl, hsm, hsa, hm, hh, hc, hret⟩

theorem Unlinked.set_energy {q : Port} (h : q.Unlinked) (x : Bool) : Unlinked { q with energy := x } :=
  ⟨h.1, h.2, h.3, h.4, h.5, h.6, h.7, h.8, h.9⟩

theorem Unlinked.set_tie {q : Port} (h : q.Unlinked) (n : Nat) : Unlinked { q with tie := n } :=
  ⟨h.1, h.2, h.3, h.4, h.5, h.6, h.7, h.8, h.9⟩

theorem enterOffer_eq {q : Port} (h : q.Unlinked) (p : PortId) (r : Profile) :
    q.enterOffer p r = q.offering p (effectiveSet r q.removed) r.roleClass r.exchangeMs := by
  obtain ⟨h1, h2, h3, h4, h5, h6, h7, h8, h9⟩ := h
  simp only [enterOffer, offering, bareIn, h1, h2, h3, h4, h5, h6, h7, h8, h9]

/-- Energy in LISTEN leads where an entry to LISTEN with energy leads (R5, R6). -/
theorem goFromListen_eq {q : Port} (h : q.Unlinked) (he : q.energy = true) (ht : q.tie = 0) (p : PortId) (r : Profile) :
    q.goFromListen p r = q.listening p r := by
  cases hm : r.linkMode with
  | exchange =>
    simp only [goFromListen, listening, he, hm, if_true, enterOffer_eq h, effectiveSet, offering, bareIn, ht]
  | forced =>
    have hf : forcedRole r.roleClass = roleAsked r.roleClass := by cases r.roleClass <;> rfl
    simp only [goFromListen, listening, he, hm, if_true, hf, enterTrain_eq, trainingAt, bareIn, ht]

theorem enterListen_eq (p : PortId) (r : Profile) (q : Port) : q.enterListen p r = q.listening p r := by
  cases he : q.energy with
  | false => simp [enterListen, listening, he, leave, bareIn]
  | true =>
    have hu : Unlinked { q.leave with state := .listen, tie := 0 } := ⟨rfl, rfl, rfl, rfl, rfl, rfl, rfl, rfl, rfl⟩
    simp only [enterListen, he, if_true]
    rw [goFromListen_eq hu he rfl]
    simp only [listening, leave, he, if_true, offering, bareIn]

theorem not_isEmpty_eq {α : Type} (l : List α) : (!l.isEmpty) = !decide (l = []) := by cases l <;> rfl

theorem enterExtend_eq (q : Port) : q.enterExtend = q.extending := by
  cases h : q.pages <;> simp [enterExtend, startSending, extending, h, not_isEmpty_eq]

/-! ### Page words (R13 to R15) -/

theorem takeAck_eq (w : PageWord) (q : Port) : q.takeAck w = q.afterAck w := by
  cases hs : q.sending with
  | none => simp only [takeAck, afterAck, hs]
  | some x =>
    by_cases hd : q.localDone = false ∧ w.ack = some x.parity
    · cases hp : x.page with
      | none => simp [takeAck, afterAck, hs, hd, acknowledged, hp]
      | some g =>
        cases hm : x.more <;> cases ht : q.pages.tail <;>
          simp [takeAck, afterAck, hs, hd, acknowledged, hp, hm, ht, startSending, not_isEmpty_eq]
    · have hb : (!q.localDone && w.ack == some x.parity) = false := by
        by_contra hc
        exact hd (by simpa using hc)
      simp [takeAck, afterAck, hs, hd, hb]

/-- The partner page log and TRUNCATED after a new page (R15). -/
theorem logPage_eq (w : PageWord) (q : Port) :
    q.logPage w =
      { q with
        log := if w.tag ≠ 0 ∧ q.log.length < 8 then q.log ++ [{ tag := w.tag, data := w.data }] else q.log,
        truncated := q.truncated || decide (w.tag ≠ 0 ∧ 8 ≤ q.log.length) } := by
  by_cases ht : w.tag = 0#8
  · simp [logPage, ht]
  · by_cases hn : q.log.length < 8
    · simp [logPage, ht, hn, Nat.not_le.mpr hn]
    · simp [logPage, ht, hn, Nat.not_lt.mp hn]

theorem takePage_eq (w : PageWord) (q : Port) : q.takePage w = q.afterPage w := by
  by_cases hl : q.lastParity = some w.parity
  · have hq : q = { q with lastParity := some w.parity } := by rw [← hl]
    cases hm : w.more
    · simp [takePage, afterPage, hl, hm]
    · simpa [takePage, afterPage, hl, hm] using hq
  · cases hm : w.more <;> simp [takePage, afterPage, hl, hm, logPage_eq]

end Sys2Proof.Machine.Port
end

section
/-! SUPPORT. A port record that fits its profile, and that every transition of one port keeps it (R1, R5, R8, R13, R30,
R46, R166). -/

namespace Sys2Proof.Machine

/-! ### What fits -/

/-- What of a port's soundness no link state decides: its removed classes leave an allowed class, and its numbers and
lists are in range. -/
structure Port.Kept (r : Profile) (q : Port) : Prop where
  set : r.allowed &&& ~~~q.removed ≠ 0
  range : q.rangeSound

/-- A port record is sound, and its removed classes leave an allowed class of this profile: what every step keeps. -/
structure Port.Fits (r : Profile) (q : Port) : Prop where
  kept : q.Kept r
  state : q.stateSound
  exchange : q.exchangeSound

/-- The count written reads back, every other count as before. -/
theorem FailCounts.get_set (x : FailCounts) (d c : Speed) (n : Nat) :
    (x.set d n).get c = if c = d then n else x.get c := by
  cases d <;> cases c <;> rfl

/-- A class that is in a set and not its lowest leaves the set non-empty when it is removed (R30, R31). -/
theorem lowestSpeed_ne : ∀ (x : SpeedSet) (c : Speed), hasSpeed x c = true → lowestSpeed x ≠ some c →
    x &&& ~~~oneSpeed c ≠ 0 := by
  intro x c
  revert x
  cases c <;> decide

namespace Port

/-- A link state without an exchange and other than LISTEN has nothing to hold for it. -/
theorem exchangeSound_of_state {q : Port} (hl : q.state ≠ .listen) (hx : q.state.exchanging = false) :
    q.exchangeSound := by
  have ho : q.state ≠ .offer := by intro e; simp [e, LinkState.exchanging] at hx
  have he : q.state ≠ .extend := by intro e; simp [e, LinkState.exchanging] at hx
  simp [exchangeSound, hl, hx, ho, he]

/-- Only a DISABLED port and one in TEST can be not enabled. -/
theorem stateSound.enabled {q : Port} (h : q.stateSound) {x : LinkState} (hx : q.state = x)
    (hd : x ≠ .disabled := by decide) (ht : x ≠ .test := by decide) : q.enabled = true := by
  obtain ⟨-, -, -, -, -, -, -, -, -, -, -, -, -, -, he, -⟩ := h
  subst hx
  by_contra hf
  rcases he (by simpa using hf) with h | h
  · exact hd h
  · exact ht h

/-- The energy-absence timer runs only in LISTEN and STALLED. -/
theorem stateSound.absence_eq {q : Port} (h : q.stateSound) {x : LinkState} (hx : q.state = x)
    (hl : x ≠ .listen := by decide) (hs : x ≠ .stalled := by decide) : q.absence = false := by
  obtain ⟨-, -, -, -, -, -, -, -, -, ha, -⟩ := h
  subst hx
  by_contra hf
  rcases (ha (by simpa using hf)).1 with h | h
  · exact hl h
  · exact hs h

/-! ### Ranges -/

theorem rangeSound.bareIn {q : Port} (h : q.rangeSound) (x : LinkState) : (q.bareIn x).rangeSound := by
  obtain ⟨h1, h2, h3, h4, h5, -, -, -, -, h⟩ := h
  exact ⟨h1, h2, h3, h4, h5, by simp [Port.bareIn], by simp [Port.bareIn], by simp [Port.bareIn],
    by simp [Port.bareIn], h⟩

theorem rangeSound.set_tie {q : Port} (h : q.rangeSound) {n : Nat} (hn : n ≤ 7) : { q with tie := n }.rangeSound := by
  obtain ⟨-, h⟩ := h
  exact ⟨hn, h⟩

theorem rangeSound.set_log {q : Port} (h : q.rangeSound) {l : List Page} (hl : l.length ≤ 8) (ht : ∀ g ∈ l, g.tag ≠ 0) :
    { q with log := l }.rangeSound := by
  obtain ⟨h1, h2, -, h4, -, h⟩ := h
  exact ⟨h1, h2, hl, h4, ht, h⟩

theorem rangeSound.set_pages {q : Port} (h : q.rangeSound) {l : List Page} (hl : l.length ≤ 8)
    (ht : ∀ g ∈ l, g.tag ≠ 0) : { q with pages := l }.rangeSound := by
  obtain ⟨h1, -, h3, -, h5, h⟩ := h
  exact ⟨h1, hl, h3, ht, h5, h⟩

theorem rangeSound.set_candidate {q : Port} (h : q.rangeSound) (w : PartnerWord) {n : Nat} (h1 : 1 ≤ n) (h3 : n ≤ 3) :
    { q with candidate := some (w, n) }.rangeSound := by
  obtain ⟨ha, hb, hc, hd, he, -, h⟩ := h
  refine ⟨ha, hb, hc, hd, he, fun x m hm => ?_, h⟩
  obtain ⟨-, rfl⟩ : w = x ∧ n = m := by simpa using hm
  exact ⟨h1, h3⟩

theorem rangeSound.set_failCount {q : Port} (h : q.rangeSound) (c : Speed) {n : Nat} (hn : n ≤ 255) :
    { q with failCounts := q.failCounts.set c n }.rangeSound := by
  obtain ⟨h1, h2, h3, h4, h5, h6, h7, h8, h9, h10, h⟩ := h
  refine ⟨h1, h2, h3, h4, h5, h6, h7, h8, h9, fun d => ?_, h⟩
  rw [FailCounts.get_set]
  split
  · exact hn
  · exact h10 d

theorem rangeSound.recordDown {q : Port} (h : q.rangeSound) (c : DownCause) : (q.recordDown c).rangeSound := by
  obtain ⟨h1, h2, h3, h4, h5, h6, h7, h8, h9, h10, h11, h12, h⟩ := h
  exact ⟨h1, h2, h3, h4, h5, h6, h7, h8, h9, h10, h11, bump_le h12, h⟩

theorem rangeSound.countLinkUp {q : Port} (h : q.rangeSound) : q.countLinkUp.rangeSound := by
  obtain ⟨h1, h2, h3, h4, h5, h6, h7, h8, h9, h10, h11, h⟩ := h
  exact ⟨h1, h2, h3, h4, h5, h6, h7, h8, h9, h10, bump_le h11, h⟩

theorem rangeSound.countTrainFailure {q : Port} (h : q.rangeSound) : q.countTrainFailure.rangeSound := by
  obtain ⟨h1, h2, h3, h4, h5, h6, h7, h8, h9, h10, h11, h12, h13, h⟩ := h
  exact ⟨h1, h2, h3, h4, h5, h6, h7, h8, h9, h10, h11, h12, bump_le h13, h⟩

theorem rangeSound.countTimeout {q : Port} (h : q.rangeSound) : q.countTimeout.rangeSound := by
  obtain ⟨h1, h2, h3, h4, h5, h6, h7, h8, h9, h10, h11, h12, h13, h14, h15⟩ := h
  exact ⟨h1, h2, h3, h4, h5, h6, h7, h8, h9, h10, h11, h12, h13, bump_le h14, h15⟩

theorem rangeSound.countDownshift {q : Port} (h : q.rangeSound) : q.countDownshift.rangeSound := by
  obtain ⟨h1, h2, h3, h4, h5, h6, h7, h8, h9, h10, h11, h12, h13, h14, h15⟩ := h
  exact ⟨h1, h2, h3, h4, h5, h6, h7, h8, h9, h10, h11, h12, h13, h14, bump_le h15⟩

theorem rangeSound.clearMemory {q : Port} (h : q.rangeSound) : q.clearMemory.rangeSound := by
  obtain ⟨h1, h2, h3, h4, h5, h6, h7, h8, h9, -, h⟩ := h
  exact ⟨h1, h2, h3, h4, h5, h6, h7, h8, h9, fun c => by cases c <;> exact Nat.zero_le _, h⟩

/-! ### The entries -/

section
variable {r : Profile} {q : Port}

theorem Kept.enterDisabled (h : q.Kept r) (he : q.enabled = false) : q.enterDisabled.Fits r :=
  ⟨⟨h.set, h.range.bareIn .disabled⟩, by simp [stateSound, Port.enterDisabled, leave, he, LinkState.exchanging],
    exchangeSound_of_state (by simp [Port.enterDisabled]) rfl⟩

theorem Kept.enterHoldoff (h : q.Kept r) (he : q.enabled = true) (r' : Profile) : (q.enterHoldoff r').Fits r :=
  ⟨⟨h.set, h.range.bareIn .holdoff⟩, by simp [stateSound, Port.enterHoldoff, leave, he, LinkState.exchanging],
    exchangeSound_of_state (by simp [Port.enterHoldoff]) rfl⟩

theorem Kept.enterStalled (h : q.Kept r) (he : q.enabled = true) (c : StallCause) : (q.enterStalled c).Fits r :=
  ⟨⟨h.set, h.range.bareIn .stalled⟩, by simp [stateSound, Port.enterStalled, leave, he, LinkState.exchanging],
    exchangeSound_of_state (by simp [Port.enterStalled]) rfl⟩

theorem Kept.returnStalled (h : q.Kept r) (he : q.enabled = true) (hc : q.stallCause.isSome) : q.returnStalled.Fits r :=
  ⟨⟨h.set, h.range.bareIn .stalled⟩, by simp [stateSound, Port.returnStalled, leave, he, hc, LinkState.exchanging],
    exchangeSound_of_state (by simp [Port.returnStalled]) rfl⟩

theorem Kept.enterTrain (h : q.Kept r) (he : q.enabled = true) (c : Speed) (x : Role) : (q.enterTrain c x).Fits r :=
  ⟨⟨h.set, h.range.bareIn .train⟩, by simp [stateSound, Port.enterTrain, leave, he, LinkState.exchanging],
    exchangeSound_of_state (by simp [Port.enterTrain]) rfl⟩

theorem Kept.enterTest (h : q.Kept r) (hs : q.state = .stalled → q.stallCause.isSome) : q.enterTest.Fits r := by
  refine ⟨⟨h.set, h.range.bareIn .test⟩, ?_, exchangeSound_of_state (by simp [Port.enterTest, setWatchState]) rfl⟩
  by_cases hq : q.state = .stalled
  · simp [stateSound, Port.enterTest, setWatchState, leave, hq, hs hq, LinkState.exchanging]
  · simp [stateSound, Port.enterTest, setWatchState, leave, hq, LinkState.exchanging]

theorem Kept.enterUp (h : q.Kept r) (he : q.enabled = true) {k : Link} (hk : k.margin ≤ 255) (map : PairMap)
    (polarity : BitVec 4) : (q.enterUp k map polarity).Fits r := by
  refine ⟨⟨h.set, ?_⟩, by simp [stateSound, Port.enterUp, countLinkUp, leave, he, LinkState.exchanging],
    exchangeSound_of_state (by simp [Port.enterUp, countLinkUp]) rfl⟩
  obtain ⟨h1, h2, h3, h4, h5, h6, -, h⟩ := ((h.range.set_failCount k.speed (Nat.zero_le _)).bareIn .up).countLinkUp
  refine ⟨h1, h2, h3, h4, h5, h6, fun x hx => ?_, h⟩
  obtain rfl : k = x := Option.some.inj hx
  exact hk

theorem Kept.enterOffer (h : q.Kept r) (hu : q.Unlinked) (he : q.enabled = true) (ht : q.tie < 7) (p : PortId)
    (r' : Profile) : (q.enterOffer p r').Fits r := by
  rw [enterOffer_eq hu]
  refine ⟨⟨h.set, (h.range.bareIn .offer).set_log (Nat.zero_le _) (List.forall_mem_nil _)⟩, ?_, ?_⟩
  · simp [stateSound, offering, bareIn, he, LinkState.exchanging]
  · simp [exchangeSound, offering, bareIn, heard, ht, LinkState.exchanging]

theorem Kept.set_tie (h : q.Kept r) {n : Nat} (hn : n ≤ 7) : { q with tie := n }.Kept r := ⟨h.set, h.range.set_tie hn⟩

theorem Kept.recordDown (h : q.Kept r) (c : DownCause) : (q.recordDown c).Kept r := ⟨h.set, h.range.recordDown c⟩

theorem Kept.set_enabled (h : q.Kept r) (e : Bool) : { q with enabled := e }.Kept r := ⟨h.set, h.range⟩

theorem Kept.clearMemory {old : Profile} (h : q.Kept old) (hr : r.allowed ≠ 0) : q.clearMemory.Kept r := by
  refine ⟨?_, h.range.clearMemory⟩
  show r.allowed &&& ~~~(0#5) ≠ 0
  rwa [BitVec.not_zero, BitVec.and_allOnes]

/-- Energy in LISTEN leads to a sound port (R6). -/
theorem Kept.goFromListen (h : q.Kept r) (hu : q.Unlinked) (he : q.enabled = true) (ht : q.tie = 0) (p : PortId)
    (r' : Profile) : (q.goFromListen p r').Fits r := by
  unfold Port.goFromListen
  split
  · exact h.enterOffer hu he (by omega) p r'
  · have hk : Kept r { q with partnerOffer := none } := ⟨h.set, h.range⟩
    exact hk.enterTrain he _ _

theorem Kept.enterListen (h : q.Kept r) (he : q.enabled = true) (p : PortId) (r' : Profile) :
    (q.enterListen p r').Fits r := by
  have hl : Kept r { q.leave with state := .listen, tie := 0 } :=
    ⟨h.set, (h.range.bareIn .listen).set_tie (Nat.zero_le _)⟩
  unfold Port.enterListen
  split
  · exact hl.goFromListen ⟨rfl, rfl, rfl, rfl, rfl, rfl, rfl, rfl, rfl⟩ he rfl p r'
  · refine ⟨⟨hl.set, hl.range⟩, ?_, ?_⟩
    · simp_all [stateSound, leave, LinkState.exchanging]
    · simp [exchangeSound, leave, LinkState.exchanging]

/-! ### Changes within a link state -/

theorem Fits.clearMemory (h : q.Fits r) (hr : r.allowed ≠ 0) : q.clearMemory.Fits r :=
  ⟨h.kept.clearMemory hr, h.state, h.exchange⟩

theorem Fits.setFlag (h : q.Fits r) (k : EventKind) : (q.setFlag k).Fits r :=
  ⟨⟨h.kept.set, h.kept.range⟩, h.state, h.exchange⟩

theorem Fits.set_flags (h : q.Fits r) (x : KindSet) : { q with flags := x }.Fits r :=
  ⟨⟨h.kept.set, h.kept.range⟩, h.state, h.exchange⟩

theorem Fits.clearCounters (h : q.Fits r) : { q with counters := coldCounters }.Fits r := by
  obtain ⟨h1, h2, h3, h4, h5, h6, h7, h8, h9, h10, -⟩ := h.kept.range
  exact ⟨⟨h.kept.set, h1, h2, h3, h4, h5, h6, h7, h8, h9, h10, Nat.zero_le _, Nat.zero_le _, Nat.zero_le _,
    Nat.zero_le _, Nat.zero_le _⟩, h.state, h.exchange⟩

/-- Outside TEST the watch is free. -/
theorem Fits.set_watch (h : q.Fits r) (ht : q.state ≠ .test) (w : Watch) : { q with watch := w }.Fits r := by
  obtain ⟨hk, hs, hx⟩ := h
  refine ⟨⟨hk.set, hk.range⟩, ?_, hx⟩
  simp_all [stateSound]

theorem Fits.compare (h : q.Fits r) (ht : q.state ≠ .test) : q.compare.Fits r := h.set_watch ht _

/-- An UNARMED watch is sound in every link state. -/
theorem Fits.unarmed (h : q.Fits r) (w : Watch) (hw : w.state = .unarmed) : { q with watch := w }.Fits r := by
  obtain ⟨hk, hs, hx⟩ := h
  refine ⟨⟨hk.set, hk.range⟩, ?_, hx⟩
  simp_all [stateSound]

theorem Fits.rearm (h : q.Fits r) : q.rearm.Fits r := by
  have hu : (q.setWatchState .unarmed).Fits r := h.unarmed _ rfl
  unfold Port.rearm
  dsimp only
  split
  · exact hu
  · next hs => exact hu.compare (by simpa [suspended] using hs)

theorem Fits.watchFor (h : q.Fits r) (x : CondWord) (mask : FieldSet) : (q.watchFor x mask).Fits r :=
  (h.unarmed { expectation := x, mask, state := .unarmed } rfl).rearm

theorem Fits.set_enabled (h : q.Fits r) (hd : q.state ≠ .disabled) : { q with enabled := true }.Fits r := by
  obtain ⟨hk, hs, hx⟩ := h
  refine ⟨⟨hk.set, hk.range⟩, ?_, hx⟩
  simp_all [stateSound]

theorem Fits.set_disabled (h : q.Fits r) (hd : q.state = .disabled ∨ q.state = .test) :
    { q with enabled := false }.Fits r := by
  obtain ⟨hk, hs, hx⟩ := h
  refine ⟨⟨hk.set, hk.range⟩, ?_, hx⟩
  simp_all [stateSound]

/-- The return-to-stall mark can be cleared anywhere. -/
theorem Fits.clear_return (h : q.Fits r) : { q with returnToStall := false }.Fits r := by
  obtain ⟨hk, hs, hx⟩ := h
  refine ⟨⟨hk.set, hk.range⟩, ?_, hx⟩
  simp_all [stateSound]

/-- In LISTEN and STALLED the energy-absence timer runs at most while ENERGY is 0; elsewhere it is stopped. -/
theorem Fits.set_energy (h : q.Fits r) (e a : Bool)
    (ha : a = true → (q.state = .listen ∨ q.state = .stalled) ∧ e = false) :
    { q with energy := e, absence := a }.Fits r := by
  obtain ⟨hk, hs, hx⟩ := h
  refine ⟨⟨hk.set, hk.range⟩, ?_, hx⟩
  simp_all [stateSound]

theorem Fits.set_candidate (h : q.Fits r) (hs : q.state.exchanging = true) (w : PartnerWord) {n : Nat} (h1 : 1 ≤ n)
    (h3 : n ≤ 3) : { q with candidate := some (w, n) }.Fits r := by
  obtain ⟨hk, hs, hx⟩ := h
  refine ⟨⟨hk.set, hk.range.set_candidate w h1 h3⟩, ?_, hx⟩
  simp_all [stateSound]

/-! ### Requests at a port record (R2, R3, R39, R170) -/

theorem Fits.enable (h : q.Fits r) (p : PortId) (r' : Profile) : (q.enable p r').Fits r := by
  unfold Port.enable
  split
  · exact (h.kept.set_enabled true).enterListen rfl p r'
  · next hd => exact h.set_enabled hd

theorem Fits.disable (h : q.Fits r) : q.disable.port.Fits r := by
  have hk := h.kept.set_enabled false
  unfold Port.disable
  split
  case h_1 hs => exact h.set_disabled (.inl hs)
  case h_2 hs => exact h.set_disabled (.inr hs)
  case h_3 => exact (hk.recordDown .admin).enterDisabled rfl
  all_goals exact hk.enterDisabled rfl

theorem Fits.restarted (h : q.Fits r) (hr : r.allowed ≠ 0) (r' : Profile) : (q.restarted r').port.Fits r := by
  have hk := (h.kept.clearMemory hr).set_tie (Nat.zero_le 7)
  have hm (hl : q.state ≠ .listen) (hx : q.state.exchanging = false) : Fits r { q.clearMemory with tie := 0 } :=
    ⟨hk, h.state, exchangeSound_of_state hl hx⟩
  unfold Port.restarted
  dsimp only
  split
  case h_1 hs => exact hm (ne_of_eq_of_ne hs nofun) (hs ▸ rfl)
  case h_2 hs => exact (hm (ne_of_eq_of_ne hs nofun) (hs ▸ rfl)).clear_return
  case h_3 hs =>
    exact (hk.recordDown .restart).enterHoldoff (h.state.enabled hs) r'
  all_goals
    next hs => exact hk.enterHoldoff (h.state.enabled hs) r'

/-- The consequences of a write: a port that fitted the old profile fits the new one (R170). -/
theorem Fits.afterWrite {old : Profile} (h : q.Fits old) (hr : r.allowed ≠ 0) : (q.afterWrite old r).Fits r := by
  have hm : Fits r (if setChanged old r then q.clearMemory else q) := by
    split
    · exact ⟨h.kept.clearMemory hr, h.state, h.exchange⟩
    · next hc =>
      have ha : old.allowed = r.allowed := by
        simp only [setChanged, Bool.or_eq_true, bne_iff_ne, not_or, not_not] at hc
        exact hc.1
      exact ⟨⟨ha ▸ h.kept.set, h.kept.range⟩, h.state, h.exchange⟩
  unfold Port.afterWrite
  dsimp only
  split
  · split
    case h_1 hs => exact hm.kept.enterHoldoff (hm.state.enabled hs) r
    case h_2 => exact hm.clear_return
    all_goals exact hm
  · exact hm

/-! ### The exchange (R9, R10, R13 to R17, R19 to R21) -/

/-- Resolution ends the exchange in a sound record, whatever it finds. -/
theorem Kept.resolve (h : q.Kept r) (hu : q.Unlinked) (he : q.enabled = true) (ht : q.tie < 7) (p : PortId)
    (r' : Profile) : (q.resolve p r').port.Fits r := by
  have htie : (q.tied p r').port.Fits r := by
    unfold tied
    dsimp only
    split
    · exact (h.set_tie ht).enterStalled he _
    · next hn =>
      exact (h.set_tie ht).enterOffer (hu.set_tie _) he (Nat.not_le.mp hn) p r'
  unfold Port.resolve
  split
  · split
    · exact h.enterStalled he _
    · split
      · exact (h.set_tie (Nat.zero_le 7)).enterTrain he _ _
      · exact h.enterStalled he _
      · exact htie
  · exact h.enterStalled he _

/-- In EXTEND the exchange's part of soundness. -/
theorem exchangeSound_extend_iff (hs : q.state = .extend) :
    q.exchangeSound ↔ q.ownOffer.isSome ∧ q.tie < 7 ∧ q.partnerOffer.isSome ∧ q.sending.isSome ∧
      ∀ x g, q.sending = some x → x.page = some g → q.pages.head? = some g := by
  simp [exchangeSound, hs, LinkState.exchanging, and_assoc]

/-- In OFFER the exchange's part of soundness. -/
theorem exchangeSound_offer_iff (hs : q.state = .offer) :
    q.exchangeSound ↔ q.ownOffer.isSome ∧ q.tie < 7 ∧ (q.heard = true → q.partnerOffer.isSome) := by
  simp [exchangeSound, hs, LinkState.exchanging, and_assoc]

/-- A port in EXTEND stays sound when its queue, its page in sending and its marks move and a real page in sending is
the head of the queue. -/
theorem Fits.set_sending (h : q.Fits r) (hs : q.state = .extend) {l : List Page} (hl : l <:+ q.pages) (x : Sending)
    (hx : ∀ g, x.page = some g → l.head? = some g) (y d : Bool) :
    Fits r { q with pages := l, sending := some x, nextParity := y, localDone := d } := by
  obtain ⟨-, hlen, -, htag, -⟩ := h.kept.range
  obtain ⟨ho, ht, hp, -, -⟩ := (exchangeSound_extend_iff hs).mp h.exchange
  refine ⟨⟨h.kept.set, h.kept.range.set_pages (hl.length_le.trans hlen) fun g hg => htag g (hl.subset hg)⟩, h.state, ?_⟩
  refine (exchangeSound_extend_iff (by exact hs)).mpr ⟨ho, ht, hp, rfl, fun z g hz hg => ?_⟩
  obtain rfl := Option.some.inj hz
  exact hx g hg

theorem Fits.afterAck (h : q.Fits r) (hs : q.state = .extend) (w : PageWord) : (q.afterAck w).Fits r := by
  unfold Port.afterAck
  split
  · exact h
  · next x hx =>
    split
    · split
      · exact ⟨⟨h.kept.set, h.kept.range⟩, h.state, h.exchange⟩
      · next g rest _ _ ht =>
        exact h.set_sending hs (ht ▸ List.tail_suffix _) _ (fun g' hg => by simpa using hg) _ _
      · next ht =>
        exact h.set_sending hs (List.tail_suffix _) _ (fun g' hg => by simp at hg) _ _
    · exact h

theorem afterAck_state (w : PageWord) (q : Port) : (q.afterAck w).state = q.state := by
  unfold Port.afterAck
  repeat' split
  all_goals rfl

theorem Fits.afterPage (h : q.Fits r) (w : PageWord) : (q.afterPage w).Fits r := by
  obtain ⟨-, -, hlen, -, htag, -⟩ := h.kept.range
  have hr : rangeSound { q with log := (q.afterPage w).log } := by
    unfold Port.afterPage
    dsimp only
    split
    · next hw =>
      refine h.kept.range.set_log (by simpa using hw.2.2) fun g hg => ?_
      rcases List.mem_append.mp hg with hg | hg
      · exact htag g hg
      · obtain rfl := List.mem_singleton.mp hg
        exact hw.2.1
    · exact h.kept.range
  exact ⟨⟨h.kept.set, hr⟩, h.state, h.exchange⟩

/-- An accepted page word keeps a port in EXTEND sound (R16). -/
theorem Fits.acceptPage (h : q.Fits r) (hs : q.state = .extend) (p : PortId) (r' : Profile) (w : PageWord) :
    (q.acceptPage p r' w).port.Fits r := by
  have hf := (h.afterAck hs w).afterPage w
  have he : ((q.afterAck w).afterPage w).state = .extend := (afterAck_state w q).trans hs
  unfold Port.acceptPage
  dsimp only
  rw [takeAck_eq, takePage_eq]
  split
  · obtain ⟨-, ht, -⟩ := (exchangeSound_extend_iff he).mp hf.exchange
    exact hf.kept.resolve (hf.state.unlinked (by simp [he]))
      (hf.state.enabled he) ht p r'
  · exact hf

/-- Entry to EXTEND from an exchange with a stored partner offer (R13). -/
theorem Fits.enterExtend (h : q.Fits r) (hs : q.state = .offer) (hp : q.partnerOffer.isSome) :
    q.enterExtend.Fits r := by
  obtain ⟨ho, ht, -⟩ := (exchangeSound_offer_iff hs).mp h.exchange
  have hst : stateSound { q with state := .extend } := by
    have := h.state
    simp_all [stateSound, LinkState.exchanging]
  rw [enterExtend_eq]
  refine ⟨⟨h.kept.set, h.kept.range⟩, hst, (exchangeSound_extend_iff rfl).mpr ⟨ho, ht, hp, rfl, fun x g hx hg => ?_⟩⟩
  obtain rfl := Option.some.inj hx
  show q.pages.head? = some g
  cases hq : q.pages <;> simp_all

/-- An accepted offer word keeps a port in OFFER sound (R9). -/
theorem Fits.acceptOffer (h : q.Fits r) (hs : q.state = .offer) (p : PortId) (r' : Profile) (w : OfferWord) :
    (q.acceptOffer p r' w).port.Fits r := by
  obtain ⟨ho, ht, -⟩ := (exchangeSound_offer_iff hs).mp h.exchange
  have hf : Fits r { q with partnerOffer := some w, ownOffer := q.ownOffer.map (fun x => { x with heard := true }) } :=
    ⟨⟨h.kept.set, h.kept.range⟩, h.state,
      (exchangeSound_offer_iff (by exact hs)).mpr ⟨by simpa using ho, ht, fun _ => rfl⟩⟩
  unfold Port.acceptOffer
  dsimp only
  split
  · unfold completeOffer
    split
    · exact hf.enterExtend hs rfl
    · exact hf.kept.resolve (hf.state.unlinked (.inr (.inl hs)))
        (h.state.enabled hs) ht p r'
  · exact hf

/-- An accepted page word keeps a port in OFFER sound (R10). -/
theorem Fits.pageInOffer (h : q.Fits r) (hs : q.state = .offer) (p : PortId) (r' : Profile) (w : PageWord) :
    (q.pageInOffer p r' w).port.Fits r := by
  obtain ⟨-, ht, hp⟩ := (exchangeSound_offer_iff hs).mp h.exchange
  unfold Port.pageInOffer
  split
  · exact h
  · next hh =>
    split
    · exact (h.enterExtend hs (hp (by simpa using hh))).acceptPage (by rw [enterExtend_eq]; rfl) p r' w
    · exact h.kept.resolve (h.state.unlinked (.inr (.inl hs)))
        (h.state.enabled hs) ht p r'

theorem Fits.accept (h : q.Fits r) (p : PortId) (r' : Profile) (w : PartnerWord) : (q.accept p r' w).port.Fits r := by
  unfold Port.accept
  split
  · next hs => exact h.acceptOffer hs p r' _
  · next hs => exact h.pageInOffer hs p r' _
  · next hs =>
    obtain ⟨-, ht, -⟩ := (exchangeSound_extend_iff hs).mp h.exchange
    exact h.kept.enterOffer (h.state.unlinked (.inr (.inr hs)))
      (h.state.enabled hs) ht p r'
  · next hs => exact h.acceptPage hs p r' _
  · exact h

/-- A partner word keeps a port sound (R7). -/
theorem Fits.hear (h : q.Fits r) (p : PortId) (r' : Profile) (w : PartnerWord) : (q.hear p r' w).port.Fits r := by
  unfold Port.hear
  split
  · next hs =>
    have hx : q.state.exchanging = true := by rcases hs with e | e <;> simp [e, LinkState.exchanging]
    split
    · next x n hc =>
      obtain ⟨-, -, -, -, -, hn, -⟩ := h.kept.range
      split
      · split
        · split
          · exact (h.set_candidate hx w (by decide) (by decide)).accept p r' w
          · exact h.set_candidate hx w (by omega) (by omega)
        · exact h
      · exact h.set_candidate hx w (by decide) (by decide)
    · exact h.set_candidate hx w (by decide) (by decide)
  · exact h

/-! ### Training and the live link (chapter 2) -/

/-- A training failure keeps the port sound: a removal is decided only where another class is left (R31). -/
theorem Kept.trainingFailure (h : q.Kept r) (he : q.enabled = true) (c : Speed) :
    (q.trainingFailure r c).port.Fits r := by
  have hc : (q.countFailure c).Kept r := by
    obtain ⟨-, -, -, -, -, -, -, -, -, hf, -⟩ := h.range
    exact ⟨h.set, (h.range.set_failCount c (bump_le (hf c))).countTrainFailure⟩
  unfold Port.trainingFailure
  dsimp only
  split
  · next hd =>
    split
    · exact hc.enterStalled he _
    · next hl =>
      simp only [removalDue, Bool.and_eq_true, beq_iff_eq] at hd
      obtain ⟨⟨⟨hm, -⟩, -⟩, hs⟩ := hd
      have hset := lowestSpeed_ne _ _ hs hl
      simp only [effectiveSet, hm] at hset
      have hk : Kept r { q.countFailure c with removed := (q.countFailure c).removed ||| oneSpeed c } := by
        refine ⟨?_, hc.range⟩
        show r.allowed &&& ~~~((q.countFailure c).removed ||| oneSpeed c) ≠ 0
        rwa [BitVec.not_or, ← BitVec.and_assoc]
      have hk' : Kept r
          (countDownshift { q.countFailure c with removed := (q.countFailure c).removed ||| oneSpeed c }) :=
        ⟨hk.set, hk.range.countDownshift⟩
      exact hk'.enterHoldoff he r
  · exact hc.enterHoldoff he r

theorem Fits.failTraining (h : q.Fits r) : (q.failTraining r).port.Fits r := by
  unfold Port.failTraining
  split
  · next hs _ =>
    exact h.kept.trainingFailure (h.state.enabled hs) _
  · exact h

theorem Fits.converged (h : q.Fits r) {m : Nat} (hm : m ≤ 255) (map : PairMap) (polarity : BitVec 4) :
    (q.converged m map polarity).port.Fits r := by
  unfold Port.converged
  split
  · next hs _ =>
    exact h.kept.enterUp (h.state.enabled hs) (by exact hm) map polarity
  · exact h

/-- The smoothed margin stays a byte (R40). -/
theorem smoothedAfter_le {m : Option Nat} {x : Nat} (hm : ∀ k, m = some k → k ≤ 255) (hx : x ≤ 255) :
    smoothedAfter m x ≤ 255 := by
  cases m with
  | none => exact hx
  | some k =>
    have := hm k rfl
    simp only [smoothedAfter]
    omega

theorem Fits.sample (h : q.Fits r) (hs : q.state = .up) {x : Nat} (hx : x ≤ 255) (r' : Profile) :
    (q.sample r' x).Fits r := by
  obtain ⟨h1, h2, h3, h4, h5, h6, h7, h8, h9, hr⟩ := h.kept.range
  have hrange : (q.sample r' x).rangeSound := by
    refine ⟨h1, h2, h3, h4, h5, h6, h7, fun m hm => ?_, bump_le h9, hr⟩
    obtain rfl := Option.some.inj hm
    exact smoothedAfter_le h8 hx
  refine ⟨⟨h.kept.set, hrange⟩, ?_, h.exchange⟩
  have := h.state
  simp_all [stateSound, Port.sample]

theorem Fits.marginDrop (h : q.Fits r) (hs : q.state = .up) (c : Speed) : (q.marginDrop r c).port.Fits r :=
  (h.kept.recordDown .margin).trainingFailure (h.state.enabled hs) c

theorem Fits.loseSignal (h : q.Fits r) (r' : Profile) : (q.loseSignal r').port.Fits r := by
  unfold Port.loseSignal
  split
  · next hs =>
    exact (h.kept.recordDown .signalLost).enterHoldoff
      (h.state.enabled hs) r'
  · exact h

/-! ### Energy and the port timers (R4, R6, R22, R23, R34, R38) -/

theorem Fits.energyOn (h : q.Fits r) (p : PortId) (r' : Profile) : (q.energyOn p r').Fits r := by
  have hk : Kept r { q with energy := true } := ⟨h.kept.set, h.kept.range⟩
  unfold Port.energyOn
  dsimp only
  split
  case h_1 hs =>
    exact hk.goFromListen ((h.state.unlinked (.inl hs)).set_energy true)
      (h.state.enabled hs) (h.exchange.1 hs) p r'
  case h_2 => exact h.set_energy true false nofun
  all_goals
    next hs =>
      have ha : q.absence = false := h.state.absence_eq hs
      exact h.set_energy true q.absence (by simp [ha])

theorem Fits.energyOff (h : q.Fits r) (p : PortId) (r' : Profile) : (q.energyOff p r').Fits r := by
  have hk : Kept r { q with energy := false } := ⟨h.kept.set, h.kept.range⟩
  unfold Port.energyOff
  dsimp only
  split
  case h_1 hs => exact h.set_energy false true fun _ => ⟨.inl hs, rfl⟩
  case h_2 hs => exact h.set_energy false true fun _ => ⟨.inr hs, rfl⟩
  case h_3 hs | h_4 hs | h_5 hs =>
    exact hk.enterListen (h.state.enabled hs) p r'
  all_goals
    next hs =>
      have ha : q.absence = false := h.state.absence_eq hs
      exact h.set_energy false q.absence (by simp [ha])

theorem Fits.exchangeExpired (h : q.Fits r) (r' : Profile) : (q.exchangeExpired r').port.Fits r := by
  unfold Port.exchangeExpired
  split
  · next hc =>
    have hk : q.countTimeout.Kept r := ⟨h.kept.set, h.kept.range.countTimeout⟩
    have he : q.enabled = true := by
      rcases hc.2 with hs | hs <;> exact h.state.enabled hs
    exact hk.enterHoldoff he r'
  · exact h

theorem Fits.trainingExpired (h : q.Fits r) : (q.trainingExpired r).port.Fits r := by
  unfold Port.trainingExpired
  split
  · exact h.failTraining
  · exact h

theorem Fits.holdoffEnded (h : q.Fits r) (p : PortId) (r' : Profile) : (q.holdoffEnded p r').Fits r := by
  unfold Port.holdoffEnded
  split
  · next hs => exact h.kept.enterListen (h.state.enabled hs.2) p r'
  · exact h

theorem Fits.absenceExpired (h : q.Fits r) (hr : r.allowed ≠ 0) (p : PortId) (r' : Profile) :
    (q.absenceExpired p r').Fits r := by
  have hf := h.clearMemory hr
  unfold Port.absenceExpired
  split
  · split
    case h_1 => exact hf.set_energy q.energy false nofun
    case h_2 hs => exact hf.kept.enterListen (h.state.enabled hs) p r'
    all_goals exact h
  · exact h

/-! ### The return from TEST and the warm restart (R25, R97) -/

theorem Fits.returnFromTest (h : q.Fits r) (r' : Profile) : (q.returnFromTest r').Fits r := by
  unfold Port.returnFromTest
  split
  · next he =>
    split
    · next hm =>
      obtain ⟨-, -, -, -, -, -, -, -, -, -, -, -, hret, -⟩ := h.state
      exact h.kept.returnStalled he (hret hm).2
    · exact h.kept.enterHoldoff he r'
  · next he => exact h.kept.enterDisabled (by simpa using he)

theorem Fits.warm (h : q.Fits r) (r' : Profile) : (q.warm r').Fits r := by
  unfold Port.warm
  dsimp only
  refine Fits.set_flags (Fits.rearm ?_) 0
  split
  case h_6 hs => exact h.set_energy q.energy (!q.energy) fun ha => ⟨.inr hs, by simpa using ha⟩
  case h_7 => exact h.clear_return
  case h_8 | h_9 => exact h
  all_goals
    next hs => exact h.kept.enterHoldoff (h.state.enabled hs) r'

/-- A cold-start record fits every profile that allows a class (R24, R175). -/
theorem coldPort_fits (hr : r.allowed ≠ 0) (n : Nat) : (coldPort n).Fits r := by
  refine ⟨⟨?_, ?_⟩, by simp [stateSound, coldPort, LinkState.exchanging], exchangeSound_of_state nofun rfl⟩
  · show r.allowed &&& ~~~(0#5) ≠ 0
    rwa [BitVec.not_zero, BitVec.and_allOnes]
  · exact ⟨Nat.zero_le _, Nat.zero_le _, Nat.zero_le _, nofun, nofun, nofun, nofun, nofun, Nat.zero_le _,
      fun c => by cases c <;> exact Nat.zero_le _, Nat.zero_le _, Nat.zero_le _, Nat.zero_le _, Nat.zero_le _,
      Nat.zero_le _⟩

end
end Port
end Sys2Proof.Machine
end

section
/-! SUPPORT. Every operation of the part keeps every profile in range and every port record fitting its profile. -/

namespace Sys2Proof.Machine

/-- Every profile is in range and every port record fits its profile. -/
def State.Fits (s : State) : Prop := ∀ p, (s.profile p).sound ∧ (s.port p).Fits (s.profile p)

theorem State.fits_iff (s : State) : s.Fits ↔ s.profilesSound ∧ s.setsSound ∧ s.portsSound := by
  constructor
  · intro h
    exact ⟨fun p => (h p).1, fun p => (h p).2.kept.set, fun p => ⟨(h p).2.state, (h p).2.exchange, (h p).2.kept.range⟩⟩
  · rintro ⟨hr, hs, hp⟩ p
    obtain ⟨h1, h2, h3⟩ := hp p
    exact ⟨hr p, ⟨hs p, h3⟩, h1, h2⟩

theorem Profile.sound.allowed_ne {r : Profile} (h : r.sound) : r.allowed ≠ 0 := h.1

/-- hard_level is held above the clamped detect_level (R168). -/
theorem clampHard_mem {d : Nat} (hd : d ≤ 2047) (n : Nat) : d + 1 ≤ clampHard d n ∧ clampHard d n ≤ 4095 := by
  simp only [clampHard]
  split <;> split <;> omega

/-- A valid record is stored with every field in range (R166 to R168). -/
theorem rawClamped_sound {r : RawProfile} (h : rawValid r = true) : (rawClamped r).sound := by
  simp only [rawValid, Bool.and_eq_true, bne_iff_ne, beq_iff_eq] at h
  obtain ⟨⟨-, ha⟩, ht⟩ := h
  have hd := clampTo_mem (show 16 ≤ 2047 by decide) r.detectLevel.toNat
  exact ⟨ha, (clampTo_mem (Nat.zero_le 4) _).2, clampTo_mem (show 100 ≤ 5000 by decide) _,
    clampTo_mem (show 500 ≤ 10000 by decide) _, Nat.le_of_lt_succ r.marginAlarm.isLt,
    (clampTo_mem (Nat.zero_le 50) _).2, Nat.le_of_lt_succ r.marginDrop.isLt, clampTo_mem (show 500 ≤ 900 by decide) _,
    Nat.le_of_lt_succ r.lossSlope.isLt, hd,
    clampHard_mem hd.2 _, clampTo_mem (show 16 ≤ 4095 by decide) _, clampTo_mem (show 4 ≤ 512 by decide) _, ht,
    (clampTo_mem (Nat.zero_le 7) _).2, (clampTo_mem (Nat.zero_le 6) _).2, Nat.le_of_lt_succ r.recheckS.isLt,
    (clampTo_mem (Nat.zero_le 7) _).2⟩

namespace State.Fits

variable {s : State}

/-! ### Writes -/

/-- What touches neither ports nor profiles keeps them sound. -/
theorem of_eq {t : State} (h : s.Fits) (hp : t.ports = s.ports) (hr : t.profiles = s.profiles) : t.Fits := by
  intro p
  simpa only [State.port, State.profile, hp, hr] using h p

/-- What touches the record of one port keeps all sound if it keeps that one. -/
theorem of_port {t : State} (h : s.Fits) (p : PortId) (hr : t.profiles = s.profiles)
    (hne : ∀ p' ≠ p, t.port p' = s.port p') (hp : (t.port p).Fits (s.profile p)) : t.Fits := by
  intro p'
  have hr' : t.profile p' = s.profile p' := by simp only [State.profile, hr]
  rw [hr']
  by_cases e : p' = p
  · exact ⟨(h p').1, e ▸ hp⟩
  · rw [hne p' e]
    exact h p'

theorem setPort (h : s.Fits) {p : PortId} {q : Port} (hq : q.Fits (s.profile p)) : (s.setPort p q).Fits :=
  h.of_port p rfl (fun _ => State.setPort_port_ne s p q _) (by simpa using hq)

theorem modPort (h : s.Fits) {p : PortId} {f : Port → Port} (hf : (f (s.port p)).Fits (s.profile p)) :
    (s.modPort p f).Fits := h.setPort hf

/-! ### Flagged events and changes (R45, R51, R58) -/

theorem flagAndReport (h : s.Fits) (p : PortId) (ev : FlagEvent) : (s.flagAndReport p ev).Fits :=
  h.of_port p (by simp) (fun _ => State.flagAndReport_port_ne s p ev) (by simpa using (h p).2.setFlag _)

theorem completeRecord (h : s.Fits) (r : TestRecord) (x : TestOutcome) (q : Quad PairRecord) :
    (s.completeRecord r x q).Fits :=
  h.of_port r.port (by simp) (fun _ => State.completeRecord_port_ne s r x q) (by simpa using (h r.port).2.setFlag _)

theorem submit (h : s.Fits) (p : PortId) (k : Option EventKind) : (s.submit p k).Fits := by
  refine h.of_port p (by simp) (fun _ => State.submit_port_ne s p k) ?_
  rcases State.submit_port_self s p k with e | e <;> rw [e]
  · exact (h p).2
  · exact (h p).2.setFlag _

theorem flagEvent (h : s.Fits) (p : PortId) (ev : FlagEvent) : (s.flagEvent p ev).Fits := by
  unfold State.flagEvent
  dsimp only
  split
  · exact (h.flagAndReport p ev).submit p _
  · exact h.flagAndReport p ev

theorem flagEvents (h : s.Fits) (p : PortId) (evs : List FlagEvent) : (s.flagEvents p evs).Fits := by
  induction evs generalizing s with
  | nil => exact h
  | cons ev rest ih => exact ih (h.flagEvent p ev)

theorem offerWord (h : s.Fits) (p : PortId) (old : CondWord) : (s.offerWord p old).Fits := by
  unfold State.offerWord
  dsimp only
  split
  · exact h
  · next hs =>
    have hc : (s.setPort p (s.port p).compare).Fits :=
      h.setPort ((h p).2.compare fun e => hs (.inl (by simp [Port.suspended, e])))
    split
    · exact hc.flagEvent p _
    · exact hc

theorem change (h : s.Fits) {p : PortId} {f : Port → Port} (hf : (f (s.port p)).Fits (s.profile p))
    (evs : List FlagEvent) : (s.change p f evs).Fits := ((h.modPort hf).flagEvents p evs).offerWord p _

/-! ### Grants and the ends of tests (chapter 5) -/

theorem portToTest (h : s.Fits) (p : PortId) : (s.portToTest p).Fits := by
  obtain ⟨-, -, -, -, -, -, -, -, -, -, hc, -⟩ := (h p).2.state
  unfold State.portToTest
  split
  · next hs =>
    have hk := (h p).2.kept.recordDown .test
    exact (h.modPort (f := fun q => (q.recordDown .test).enterTest) (hk.enterTest hc)).flagEvent p _
  · exact h.modPort ((h p).2.kept.enterTest hc)

theorem grantEngine (h : s.Fits) (r : TestRecord) (e : EngineId) : (s.grantEngine r e).Fits := by
  have hq : (s.setQueue (runRecord r.number e s.queue)).Fits := h.of_eq rfl rfl
  have hb : State.Fits ((s.setQueue (runRecord r.number e s.queue)).setBank (bankOf r.port)
      (some { port := r.port, engine := e })) := hq.of_eq rfl rfl
  exact (hb.portToTest r.port).of_eq (by simp [State.grantEngine]) (by simp [State.grantEngine])

theorem grant (h : s.Fits) (r : TestRecord) (e : EngineId) : (s.grant r e).Fits := by
  unfold State.grant
  split
  · exact h.completeRecord r _ _
  · exact h.grantEngine r e

theorem grantPass (h : s.Fits) : s.grantPass.Fits :=
  State.passFuel_rec (P := State.Fits) (fun _ r e _ _ hs => hs.grant r e) _ _ h

theorem settle (h : s.Fits) : s.settle.Fits := by
  unfold State.settle
  split
  · exact grantPass (s := s.duePass false) (h.of_eq rfl rfl)
  · exact h

theorem endTest (h : s.Fits) (e : EngineId) (x : TestOutcome) (q : Quad PairRecord) : (s.endTest e x q).Fits := by
  unfold State.endTest
  dsimp only
  split
  · exact h.of_eq rfl rfl
  · next j _ =>
    split
    · exact h.of_eq (by simp) (by simp)
    · next r _ =>
      have hw : ((s.setResult r.port (some (resultOf r j x q))).settleSlot j x q (s.engine e).buffer).Fits :=
        h.of_eq (by simp) (by simp)
      exact (hw.completeRecord r x q).of_eq rfl rfl

theorem abort (h : s.Fits) (e : EngineId) : (s.abort e).Fits := by
  unfold State.abort
  split
  · exact h.endTest e _ _
  · exact h

theorem abortAll (h : s.Fits) : s.abortAll.Fits := (((h.abort 0).abort 1).abort 2).abort 3

theorem completeStranded (h : s.Fits) : s.completeStranded.Fits := by
  unfold State.completeStranded
  generalize s.queue.filter _ = l
  induction l generalizing s with
  | nil => exact h
  | cons r rest ih => exact ih (h.completeRecord r _ _)

theorem freeEngine (h : s.Fits) (e : EngineId) : (s.freeEngine e).Fits := by
  unfold State.freeEngine
  split
  · exact completeStranded (h.of_eq rfl rfl)
  · exact h.of_eq rfl rfl

theorem freePort (h : s.Fits) (p : PortId) : (s.freePort p).Fits := by
  have hb : (s.setBank (bankOf p) none).Fits := h.of_eq rfl rfl
  exact hb.change ((hb p).2.returnFromTest (s.profile p)) []

theorem releaseEnd (h : s.Fits) (e : EngineId) : (s.releaseEnd e).Fits := by
  have hd {t : State} (ht : t.Fits) : ((t.freeEngine e).duePass false).grantPass.Fits :=
    grantPass ((ht.freeEngine e).of_eq rfl rfl)
  unfold State.releaseEnd
  dsimp only
  split
  · exact hd (h.freePort _)
  · exact hd h

theorem finishPair (h : s.Fits) (e : EngineId) (x : PairRecord) : (s.finishPair e x).Fits := by
  unfold State.finishPair
  dsimp only
  split
  · exact h.of_eq rfl rfl
  · refine Fits.endTest ?_ e _ _
    exact h.of_eq rfl rfl

/-! ### Engine events (chapter 6) -/

theorem busFail (h : s.Fits) (e : EngineId) : (s.busFail e).Fits := by
  unfold State.busFail
  split
  · exact h.endTest e _ _
  · exact h

theorem busPass (h : s.Fits) (e : EngineId) : (s.busPass e).Fits := by
  unfold State.busPass
  dsimp only
  split
  · exact h.of_eq rfl rfl
  · exact h

theorem listenEnd (h : s.Fits) (e : EngineId) (c : Quad (List Sample)) : (s.listenEnd e c).Fits := by
  unfold State.listenEnd
  dsimp only
  split
  · split
    · exact h
    · split
      · exact h.of_eq rfl rfl
      · split
        · exact h.of_eq rfl rfl
        · refine finishPair ?_ e _
          exact h.of_eq rfl rfl
  · exact h

theorem listenWaitEnd (h : s.Fits) (e : EngineId) : (s.listenWaitEnd e).Fits := by
  unfold State.listenWaitEnd
  dsimp only
  split
  · split
    · exact h.of_eq rfl rfl
    · exact h
  · exact h

theorem launch (h : s.Fits) (e : EngineId) (c : Quad (List Sample)) : (s.launch e c).Fits := by
  unfold State.launch
  dsimp only
  split
  · exact h.of_eq rfl rfl
  · exact h

theorem analysisDone (h : s.Fits) (e : EngineId) : (s.analysisDone e).Fits := by
  unfold State.analysisDone
  dsimp only
  split
  · split
    · exact h.of_eq rfl rfl
    · refine finishPair ?_ e _
      exact h.of_eq rfl rfl
  · exact h

/-! ### Moves of one port (chapters 1 and 2) -/

theorem move (h : s.Fits) {p : PortId} {m : Moved} (hm : m.port.Fits (s.profile p)) : (s.move p m).Fits :=
  h.change hm m.events

theorem arrive (h : s.Fits) {f : State → State} (hf : (f s).Fits) : (s.arrive f).Fits := by
  unfold State.arrive
  split
  · exact h
  · exact hf.settle

theorem marginSample (h : s.Fits) (p : PortId) {x : Nat} (hx : x ≤ 255) : (s.marginSample p x).Fits := by
  have hd {t : State} (ht : t.Fits) (hs : (t.port p).state = .up) : (t.dropChange p).Fits := by
    unfold State.dropChange
    split
    · split
      · exact ht.move ((ht p).2.marginDrop hs _)
      · exact ht
    · exact ht
  unfold State.marginSample
  split
  · next hs =>
    have hq := (h p).2.sample hs hx (s.profile p)
    refine hd (h.move hq) ?_
    have hb := State.change_bare s p (fun _ => (s.port p).sample (s.profile p) x)
      (if ((s.port p).sample (s.profile p) x).marginLow && !(s.port p).marginLow then [.marginLow] else [])
    exact (congrArg Port.state hb).trans hs
  · exact h

theorem recheckExpired (h : s.Fits) (p : PortId) : (s.recheckExpired p).Fits := by
  unfold State.recheckExpired
  split
  · exact h
  · refine settle (of_eq (s := if (s.port p).state = .up then s else s.submit p none) ?_ rfl rfl)
    split
    · exact h
    · exact h.submit p none

theorem agingExpired (h : s.Fits) (n : Nat) : (s.agingExpired n).Fits := by
  unfold State.agingExpired
  split
  · split
    · exact grantPass (h.of_eq rfl rfl)
    · exact h
  · exact h

/-! ### Restarts (R24, R25, R175, R189) -/

theorem coldStart (s : State) (c : RestartCause) : (s.coldStart c).Fits := by
  have hr : defaultProfile.sound := by unfold Profile.sound; decide +kernel
  intro p
  have h1 : (s.coldStart c).profile p = defaultProfile := by simp [State.coldStart, State.profile, State.reset]
  have h2 : (s.coldStart c).port p = coldPort (s.port p).draws := by simp [State.coldStart, State.port]
  rw [h1, h2]
  exact ⟨hr, Port.coldPort_fits hr.allowed_ne _⟩

theorem warmRestart (h : s.Fits) : s.warmRestart.Fits := by
  have ha := h.abortAll
  intro p
  have h1 : s.warmRestart.profile p = s.abortAll.profile p := rfl
  have h2 : s.warmRestart.port p = (s.abortAll.port p).warm (s.abortAll.profile p) := by
    simp [State.warmRestart, State.warmBlocks, State.port]
  rw [h1, h2]
  exact ⟨(ha p).1, (ha p).2.warm _⟩

theorem restart (h : s.Fits) (m : RestartMode) : (s.restart m).Fits := by
  cases m with
  | cold => exact coldStart s _
  | warm => exact h.warmRestart

/-! ### Requests (R185) -/

theorem apart (h : s.Fits) {f : State → State} (hf : (s.setPending []).Fits → (f (s.setPending [])).Fits) :
    (s.apart f).Fits := (hf (h.of_eq rfl rfl)).of_eq rfl rfl

theorem withPort (h : s.Fits) (b : Byte) {k : PortId → State × Answer} (hk : ∀ p, (k p).1.Fits) :
    (withPort b s k).1.Fits := by
  unfold Machine.withPort
  split
  · exact hk _
  · exact h

theorem setAdmin (h : s.Fits) (p : PortId) (a : Bool) : (s.setAdmin p a).Fits := by
  refine h.apart fun h => ?_
  split
  · exact (h.change ((h p).2.enable p _) []).settle
  · exact (h.change (f := fun q => q.disable.port) (h p).2.disable _).settle

theorem abortPort (h : s.Fits) (p : PortId) : (s.abortPort p).Fits := by
  unfold State.abortPort
  split
  · exact h.abort _
  · exact h

theorem portRestart (h : s.Fits) (p : PortId) : (s.portRestart p).Fits := by
  refine h.apart fun h => ?_
  have hc := h.move ((h p).2.restarted (h p).1.allowed_ne ((s.setPending []).profile p))
  dsimp only
  split
  · exact (hc.abortPort p).settle
  · exact hc.settle

theorem loadPages (h : s.Fits) (port : Byte) (gs : List Page) : (ownLoadPages port gs s).1.Fits := by
  refine h.withPort port fun p => ?_
  split
  · exact h
  · split
    · exact h
    · next ht =>
      obtain ⟨-, hlen, -, htag, -⟩ := (h p).2.kept.range
      have hr := (h p).2.kept.range.set_pages (l := (s.port p).pages ++ gs.take (8 - (s.port p).pages.length))
        (by simp; omega) fun g hg => by
          rcases List.mem_append.mp hg with hg | hg
          · exact htag g hg
          · intro e
            exact ht (List.any_eq_true.mpr ⟨g, List.mem_of_mem_take hg, by simpa using e⟩)
      refine h.modPort ⟨⟨(h p).2.kept.set, hr⟩, (h p).2.state, ?_⟩
      obtain ⟨h1, h2, h3, h4, h5⟩ := (h p).2.exchange
      refine ⟨h1, h2, h3, h4, fun hs x g hx hg => ?_⟩
      have hh := h5 hs x g hx hg
      show ((s.port p).pages ++ _).head? = some g
      cases hp : (s.port p).pages <;> simp_all

theorem clearPages (h : s.Fits) (port : Byte) : (ownClearPages port s).1.Fits := by
  refine h.withPort port fun p => ?_
  split
  · exact h
  · next hs =>
    have hr := (h p).2.kept.range.set_pages (l := []) (Nat.zero_le _) (List.forall_mem_nil _)
    obtain ⟨h1, h2, h3, h4, -⟩ := (h p).2.exchange
    exact h.modPort ⟨⟨(h p).2.kept.set, hr⟩, (h p).2.state, h1, h2, h3, h4, fun e => absurd e hs⟩

theorem writeProfile (h : s.Fits) {r : Profile} (hr : r.sound) (p : PortId) : (s.writeProfile r p).Fits := by
  have hm : ((s.setProfile p r).modPort p (Port.afterWrite (s.profile p) r)).Fits := by
    intro p'
    by_cases e : p' = p
    · subst e
      simpa using ⟨hr, (h p').2.afterWrite hr.allowed_ne⟩
    · simpa [State.setProfile_profile_ne _ _ _ _ e, State.modPort_port_ne _ _ _ _ e] using h p'
  have hc : ((s.setProfile p r).change p (Port.afterWrite (s.profile p) r) []).Fits :=
    (hm.flagEvents p []).offerWord p _
  unfold State.writeProfile
  dsimp only
  split
  · exact hc.of_eq rfl rfl
  · exact hc

theorem writes (h : s.Fits) {r : Profile} (hr : r.sound) (ps : List PortId) :
    (ps.foldl (fun s p => s.writeProfile r p) s).Fits := by
  induction ps generalizing s with
  | nil => exact h
  | cons p rest ih => exact ih (h.writeProfile hr p)

theorem setProfile (h : s.Fits) (f l : Byte) (x : RawProfile) : (ownSetProfile f l x s).1.Fits := by
  unfold ownSetProfile
  split
  · split
    · exact h
    · split
      · next hv => exact h.apart fun h => (h.writes (rawClamped_sound hv) _).settle
      · exact h
  · exact h

theorem startTest (h : s.Fits) (port x avg c y d : Byte) : (ownStartTest port x avg c y d s).1.Fits := by
  refine h.withPort port fun p => ?_
  split
  · unfold State.startTest
    split
    · exact h
    · split
      · exact h
      · split
        · refine settle ?_
          exact h.of_eq rfl rfl
        · exact h
  · exact h

theorem cancelFound (h : s.Fits) (r : Option TestRecord) : (s.cancelFound r).1.Fits := by
  cases r with
  | none => exact h
  | some r =>
    show (s.cancel r).Fits
    unfold State.cancel
    split
    · exact h.completeRecord r _ _
    · exact h.abort _

theorem cancelTest (h : s.Fits) (x : Byte) (v : Word) : (ownCancelTest x v s).1.Fits := by
  unfold ownCancelTest
  split
  · split
    · exact h
    · exact h.cancelFound _
  · split
    · exact h.cancelFound _
    · exact h
  · exact h

theorem restoreEngine (h : s.Fits) (e : Byte) : (ownRestoreEngine e s).1.Fits := by
  unfold ownRestoreEngine
  split
  · exact h
  · dsimp only
    unfold State.restoreEngine
    split
    · refine grantPass ?_
      exact h.of_eq rfl rfl
    · exact h

/-- Every owner keeps profiles and ports sound. -/
theorem own (h : s.Fits) (r : Request) : (own r s).1.Fits := by
  cases r with
  | identify | getQueue | getSummary => exact h
  | restart m => simp only [Machine.own, ownRestart]; split <;> exact h
  | setProfile f l x => exact h.setProfile f l x
  | getProfile p => exact h.withPort p fun _ => h
  | setAdmin p a => exact h.withPort p fun q => by split <;> [exact h; exact h.setAdmin q _]
  | portRestart p => exact h.withPort p fun q => h.portRestart q
  | getPort p => exact h.withPort p fun _ => h
  | clearFlags p k => exact h.withPort p fun q => h.modPort ((h q).2.set_flags _)
  | setWatch p x m =>
    exact h.withPort p fun q => by
      split
      · exact h
      · exact h.modPort ((h q).2.watchFor _ _)
  | clearCounters p => exact h.withPort p fun q => h.modPort (h q).2.clearCounters
  | loadPages p gs => exact h.loadPages p gs
  | clearPages p => exact h.clearPages p
  | getPartnerPages p => exact h.withPort p fun _ => h
  | startTest p x a c y d => exact h.startTest p x a c y d
  | cancelTest x v => exact h.cancelTest x v
  | restoreEngine e => exact h.restoreEngine e
  | getResult p => exact h.withPort p fun _ => by split <;> exact h
  | readTrace k p f c =>
    simp only [Machine.own, ownReadTrace]
    split
    · split <;> exact h
    · exact h
  | releaseTrace k =>
    simp only [Machine.own, ownReleaseTrace]
    split
    · exact h
    · split <;> [exact h; exact h; exact h.of_eq rfl rfl]
  | fetchReports => simp only [Machine.own, ownFetchReports]; split <;> exact h.of_eq rfl rfl

/-! ### The management line (chapter 11) -/

theorem dispatch (h : s.Fits) (f : Frame) : (s.dispatch f).Fits := by
  unfold State.dispatch
  split
  · exact h.of_eq rfl rfl
  · exact h.of_eq rfl rfl
  · exact (h.own _).of_eq rfl rfl

theorem serve (h : s.Fits) : s.serve.Fits := by
  unfold State.serve
  split
  · exact h.of_eq rfl rfl
  · split
    · refine dispatch ?_ _
      exact h.of_eq rfl rfl
    · exact h

theorem serveIfIdle (h : s.Fits) : s.serveIfIdle.Fits := by
  unfold State.serveIfIdle
  split
  · exact h.serve
  · exact h

theorem offerFrame (h : s.Fits) (f : Frame) : (s.offerFrame f).Fits := by
  unfold State.offerFrame
  split
  · refine serveIfIdle ?_
    exact h.of_eq rfl rfl
  · split
    · refine serveIfIdle ?_
      exact h.of_eq rfl rfl
    · exact h

theorem hostRequest (h : s.Fits) (tag : Byte) (r : Request) : (s.hostRequest tag r).Fits := by
  unfold State.hostRequest
  split
  · exact h
  · exact h.offerFrame _

theorem setReceiver (h : s.Fits) (x : Receiver) : (s.setReceiver x).Fits := h.of_eq rfl rfl

theorem character (h : s.Fits) (c : Byte) (framingError : Bool) : (s.character c framingError).Fits := by
  unfold State.character
  split
  · split
    · exact h.setReceiver _
    · exact h
  · split <;> exact h.setReceiver _
  · split
    · exact h.setReceiver _
    · split
      · exact h.setReceiver _
      · unfold State.frameComplete
        dsimp only
        split
        · exact (h.setReceiver _).offerFrame _
        · exact h.setReceiver _

theorem replySent (h : s.Fits) : s.replySent.Fits := by
  unfold State.replySent
  split
  · exact h
  · refine serve ?_
    exact h.of_eq rfl rfl
  · exact h.restart _

/-! ### Every command -/

/-- Every command keeps profiles in range and port records sound. -/
theorem exec (h : s.Fits) (i : Instr) : ∃ t, exec i s = .next t ∧ t.Fits := by
  cases i with
  | energyPresent p => exact ⟨_, rfl, h.arrive (h.change ((h p).2.energyOn p _) [])⟩
  | energyAbsent p => exact ⟨_, rfl, h.arrive (h.change ((h p).2.energyOff p _) [])⟩
  | partnerWord p w => exact ⟨_, rfl, h.arrive (h.move ((h p).2.hear p _ w))⟩
  | trainingConverged p m map polarity =>
    exact ⟨_, rfl, h.arrive (h.move ((h p).2.converged (Nat.le_of_lt_succ m.isLt) map polarity))⟩
  | trainingFailed p => exact ⟨_, rfl, h.arrive (h.move (h p).2.failTraining)⟩
  | marginSample p x => exact ⟨_, rfl, h.arrive (h.marginSample p (Nat.le_of_lt_succ x.isLt))⟩
  | signalLost p => exact ⟨_, rfl, h.arrive (h.move ((h p).2.loseSignal _))⟩
  | exchangeTimerExpiry p => exact ⟨_, rfl, (h.move ((h p).2.exchangeExpired _)).settle⟩
  | trainingTimerExpiry p => exact ⟨_, rfl, (h.move (h p).2.trainingExpired).settle⟩
  | holdoffWaitEnd p => exact ⟨_, rfl, (h.change ((h p).2.holdoffEnded p _) []).settle⟩
  | energyAbsenceTimerExpiry p =>
    exact ⟨_, rfl, (h.change ((h p).2.absenceExpired (h p).1.allowed_ne p _) []).settle⟩
  | recheckTimerExpiry p => exact ⟨_, rfl, h.recheckExpired p⟩
  | agingClockExpiry n => exact ⟨_, rfl, h.agingExpired n⟩
  | busCheckPass e => exact ⟨_, rfl, h.busPass e⟩
  | busCheckFail e => exact ⟨_, rfl, h.busFail e⟩
  | listenAttemptEnd e c => exact ⟨_, rfl, h.listenEnd e c⟩
  | listenWaitEnd e => exact ⟨_, rfl, h.listenWaitEnd e⟩
  | launchCaptured e c => exact ⟨_, rfl, h.launch e c⟩
  | analysisDone e => exact ⟨_, rfl, h.analysisDone e⟩
  | releaseEnd e =>
    refine ⟨_, rfl, ?_⟩
    split
    · exact h.releaseEnd e
    · exact h
  | mrxCharacter c x =>
    refine ⟨_, rfl, ?_⟩
    split
    · exact h
    · exact h.character c x
  | gapTimerExpiry => exact ⟨_, rfl, h.setReceiver _⟩
  | replySent => exact ⟨_, rfl, h.replySent⟩
  | powerOn | resetRelease => exact ⟨_, rfl, coldStart s _⟩
  | resetAssert => exact ⟨_, rfl, (coldStart s s.lastCause).of_eq rfl rfl⟩
  | _ => exact ⟨_, rfl, h.hostRequest _ _⟩

end State.Fits

/-- Settles O54: what fits before a command fits after it (`State.Fits.exec`). -/
theorem stepKeepsThePorts : Obligations.StepKeepsThePorts := by
  intro s t hr hs hp hst
  have h : s.Fits := s.fits_iff.mpr ⟨hr, hs, hp⟩
  refine t.fits_iff.mp ?_
  unfold step at hst
  split at hst
  · next i rest _ =>
    have hq : (s.setPending rest).Fits := h.of_eq rfl rfl
    obtain ⟨u, hu, hf⟩ := hq.exec i
    obtain rfl : u = t := by simpa [hu] using hst
    exact hf
  · obtain rfl : s = t := by simpa using hst
    exact h

end Sys2Proof.Machine
end

section
/-! SUPPORT. Test numbers and the test queue: the number a new record takes is free (R64), and what each operation of the
queue keeps of its soundness (R63). -/

namespace Sys2Proof.Machine

/-! ### Test numbers (R64) -/

/-- The `i`-th number after `n`. -/
theorem nextTestNumber_iterate {n : Nat} (h1 : 1 ≤ n) (h2 : n ≤ 65535) (i : Nat) :
    nextTestNumber^[i] n = (n - 1 + i) % 65535 + 1 := by
  induction i with
  | zero => simp; omega
  | succ i ih =>
    rw [Function.iterate_succ_apply', ih, nextTestNumber]
    split <;> omega

theorem nextTestNumber_mem {n : Nat} (h1 : 1 ≤ n) (h2 : n ≤ 65535) :
    1 ≤ nextTestNumber n ∧ nextTestNumber n ≤ 65535 := by
  unfold nextTestNumber
  split <;> omega

theorem freeNumber_mem (queue : List TestRecord) (fuel : Nat) {n : Nat} (h1 : 1 ≤ n) (h2 : n ≤ 65535) :
    1 ≤ freeNumber queue fuel n ∧ freeNumber queue fuel n ≤ 65535 := by
  induction fuel generalizing n with
  | zero => exact ⟨h1, h2⟩
  | succ fuel ih =>
    unfold freeNumber
    split
    · exact ih (nextTestNumber_mem h1 h2).1 (nextTestNumber_mem h1 h2).2
    · exact ⟨h1, h2⟩

/-- Where the search ends on a number in use, every number it tried is in use. -/
theorem iterate_mem_of_freeNumber_mem {queue : List TestRecord} {fuel n : Nat}
    (h : freeNumber queue fuel n ∈ queue.map (·.number)) :
    ∀ i ≤ fuel, nextTestNumber^[i] n ∈ queue.map (·.number) := by
  induction fuel generalizing n with
  | zero =>
    intro i hi
    obtain rfl : i = 0 := by omega
    exact h
  | succ fuel ih =>
    have hn : n ∈ queue.map (·.number) := by
      by_contra hc
      have ha : queue.any (fun r => r.number == n) = false := by simpa using hc
      simp only [freeNumber, ha] at h
      exact hc h
    have ha : queue.any (fun r => r.number == n) = true := by simpa using hn
    simp only [freeNumber, ha, if_true] at h
    intro i hi
    cases i with
    | zero => exact hn
    | succ i => exact ih h i (by omega)

/-- Fewer than 65535 records leave a number free, and the search finds it. -/
theorem freeNumber_fresh {queue : List TestRecord} {n : Nat} (h1 : 1 ≤ n) (h2 : n ≤ 65535)
    (hl : queue.length < 65534) : freeNumber queue (queue.length + 1) n ∉ queue.map (·.number) := by
  intro h
  have hmem := iterate_mem_of_freeNumber_mem h
  have hnd : ((List.range (queue.length + 1)).map (fun i => nextTestNumber^[i] n)).Nodup := by
    refine (List.nodup_range).map_on fun i hi j hj e => ?_
    rw [List.mem_range] at hi hj
    simp only [nextTestNumber_iterate h1 h2] at e
    omega
  have hsub : (List.range (queue.length + 1)).map (fun i => nextTestNumber^[i] n) ⊆ queue.map (·.number) := by
    intro x hx
    obtain ⟨i, hi, rfl⟩ := List.mem_map.mp hx
    exact hmem i (List.mem_range.mp hi).le
  have := (hnd.subperm hsub).length_le
  simp at this

namespace State

/-- There are at most as many records as ports (R63). -/
theorem queueSound.length_le {s : State} (h : s.queueSound) : s.queue.length ≤ 48 := by
  obtain ⟨hp, -⟩ := h
  simpa using hp.length_le_card

/-- The number the next record takes is in range and held by no record (R64). -/
theorem queueSound.takeNumber {s : State} (h : s.queueSound) :
    (1 ≤ s.takeNumber ∧ s.takeNumber ≤ 65535) ∧ ∀ r ∈ s.queue, r.number ≠ s.takeNumber := by
  have hl := h.length_le
  obtain ⟨-, -, -, h1, h2⟩ := h
  refine ⟨freeNumber_mem _ _ h1 h2, fun r hr e => ?_⟩
  exact freeNumber_fresh h1 h2 (by omega) (List.mem_map.mpr ⟨r, hr, e⟩)

/-- A record is known by its number. -/
theorem queueSound.eq_of_number {s : State} (h : s.queueSound) {x y : TestRecord} (hx : x ∈ s.queue) (hy : y ∈ s.queue)
    (e : x.number = y.number) : x = y := by
  obtain ⟨-, hn, -⟩ := h
  exact List.inj_on_of_nodup_map hn hx hy e

theorem recordOf_mem {s : State} {p : PortId} {r : TestRecord} (h : s.recordOf p = some r) :
    r ∈ s.queue ∧ r.port = p :=
  ⟨List.mem_of_find?_eq_some h, by simpa using List.find?_some h⟩

theorem recordOf_eq_none {s : State} {p : PortId} (h : s.recordOf p = none) : ∀ r ∈ s.queue, r.port ≠ p := by
  simpa [recordOf] using h

/-- What keeps queue and next number keeps the queue sound. -/
theorem queueSound.of_eq {s t : State} (h : s.queueSound) (hq : t.queue = s.queue) (hn : t.nextNumber = s.nextNumber) :
    t.queueSound := by
  unfold queueSound
  rw [hq, hn]
  exact h

/-- Leaving records out keeps the queue sound. -/
theorem queueSound.of_sublist {s t : State} (h : s.queueSound) (hq : t.queue.Sublist s.queue)
    (hn : t.nextNumber = s.nextNumber) : t.queueSound := by
  obtain ⟨hp, hnum, hr, h1, h2⟩ := h
  exact ⟨hp.sublist (hq.map _), hnum.sublist (hq.map _), fun r hm => hr r (hq.subset hm), hn ▸ h1, hn ▸ h2⟩

/-- Changing records but for port and number keeps the queue sound. -/
theorem queueSound.of_map {s t : State} (h : s.queueSound) {f : TestRecord → TestRecord}
    (hf : ∀ r, (f r).port = r.port ∧ (f r).number = r.number) (hq : t.queue = s.queue.map f)
    (hn : t.nextNumber = s.nextNumber) : t.queueSound := by
  obtain ⟨hp, hnum, hr, h1, h2⟩ := h
  have e1 : (s.queue.map f).map (·.port) = s.queue.map (·.port) := by
    simp only [List.map_map]
    exact List.map_congr_left fun r _ => (hf r).1
  have e2 : (s.queue.map f).map (·.number) = s.queue.map (·.number) := by
    simp only [List.map_map]
    exact List.map_congr_left fun r _ => (hf r).2
  refine ⟨by rwa [hq, e1], by rwa [hq, e2], fun r hm => ?_, hn ▸ h1, hn ▸ h2⟩
  rw [hq] at hm
  obtain ⟨x, hx, rfl⟩ := List.mem_map.mp hm
  rw [(hf x).2]
  exact hr x hx

/-- A new record of a port without one, under the free number, keeps the queue sound (R63, R64). -/
theorem queueSound.of_append {s t : State} (h : s.queueSound) {r : TestRecord} (hp : s.recordOf r.port = none)
    (hn : r.number = s.takeNumber) (hq : t.queue = s.queue ++ [r]) (ht : t.nextNumber = nextTestNumber r.number) :
    t.queueSound := by
  obtain ⟨hmem, hfree⟩ := h.takeNumber
  obtain ⟨hport, hnum, hr, -, -⟩ := h
  have hnone := recordOf_eq_none hp
  refine ⟨?_, ?_, fun x hx => ?_, ?_⟩
  · rw [hq, List.map_append]
    refine List.nodup_append.mpr ⟨hport, by simp, fun a ha b hb => ?_⟩
    obtain ⟨x, hx, rfl⟩ := List.mem_map.mp ha
    obtain rfl : b = r.port := by simpa using hb
    exact hnone x hx
  · rw [hq, List.map_append]
    refine List.nodup_append.mpr ⟨hnum, by simp, fun a ha b hb => ?_⟩
    obtain ⟨x, hx, rfl⟩ := List.mem_map.mp ha
    obtain rfl : b = r.number := by simpa using hb
    exact hn ▸ hfree x hx
  · rw [hq] at hx
    rcases List.mem_append.mp hx with hx | hx
    · exact hr x hx
    · obtain rfl := List.mem_singleton.mp hx
      exact hn ▸ hmem
  · rw [ht, hn]
    exact nextTestNumber_mem hmem.1 hmem.2

end State
end Sys2Proof.Machine
end

section
/-! SUPPORT. What an operation at one port leaves of all others: records, profiles, recheck timers, results, test records
and report entries (section 1: the exchanges of different ports share no state). -/

namespace Sys2Proof.Machine

/-! ### Report entries of other ports -/

theorem entryOf_mapEntry_ne {p p' : PortId} (hp : p' ≠ p) {f : PortEntry → PortEntry} (hf : ∀ x, (f x).port = x.port) :
    ∀ r : List Entry, entryOf p' (mapEntry p f r) = entryOf p' r
  | [] => rfl
  | .device _ :: r => entryOf_mapEntry_ne hp hf r
  | .port x :: r => by
    have ih := entryOf_mapEntry_ne hp hf r
    by_cases hx : x.port = p
    · simp [mapEntry, entryOf, hf, hx, hp.symm]
    · simp [mapEntry, entryOf, hx, ih]

theorem entryOf_append_ne {p' : PortId} {x : PortEntry} (hx : x.port ≠ p') :
    ∀ r : List Entry, entryOf p' (r ++ [.port x]) = entryOf p' r
  | [] => by simp [entryOf, hx]
  | .device _ :: r => entryOf_append_ne hx r
  | .port y :: r => by simp [entryOf, entryOf_append_ne hx r]

theorem PortEntry.join_port (x : PortEntry) (ev : FlagEvent) (w : CondWord) : (x.join ev w).port = x.port := by
  cases ev <;> rfl

theorem entryOf_addEvent_ne {p p' : PortId} (hp : p' ≠ p) (ev : FlagEvent) (w : CondWord) (r : List Entry) :
    entryOf p' (addEvent p ev w r) = entryOf p' r := by
  unfold addEvent
  split
  · exact entryOf_mapEntry_ne hp (fun x => x.join_port ev w) r
  · exact entryOf_append_ne (by rw [PortEntry.join_port]; exact hp.symm) r

theorem entryOf_attachHold_ne {p p' : PortId} (hp : p' ≠ p) (n : Nat) (w : CondWord) (r : List Entry) :
    entryOf p' (attachHold p n w r) = entryOf p' r := by
  unfold attachHold
  split
  · split
    · exact entryOf_mapEntry_ne hp (f := fun x => { x with hold := some n }) (fun _ => rfl) r
    · rfl
  · exact entryOf_append_ne hp.symm r

theorem entryOf_releaseHold_ne {p p' : PortId} (hp : p' ≠ p) (n : Nat) (x : Summary) (w : CondWord) (r : List Entry) :
    entryOf p' (releaseHold p n x w r) = entryOf p' r := by
  unfold releaseHold
  split
  · split
    · exact entryOf_mapEntry_ne hp (f := fun z => { z.join (.testDone x) w with hold := none })
        (fun y => y.join_port (.testDone x) w) r
    · rfl
  · rfl

/-! ### The relation -/

/-- No FETCH_REPORTS comes together with what happens next: none is at hand, or the queue has taken it already (R162). -/
def State.FetchQuiet (s : State) : Prop := s.fetchAtHand = false ∨ s.fetch ≠ none

/-- Only port `p` has something the arbiter could choose, in a sound queue. -/
structure State.OnlyAt (p : PortId) (s : State) : Prop where
  queue : s.queueSound
  choosable : ∀ r ∈ s.queue, r.port ≠ p → s.choosable r = false

/-- `t` comes from `s` by operations at port `p`: all other ports are as they were. -/
structure Apart (p : PortId) (s t : State) : Prop where
  port : ∀ p' ≠ p, t.port p' = s.port p'
  profiles : t.profiles = s.profiles
  recheck : ∀ p' ≠ p, t.recheckOf p' = s.recheckOf p'
  results : t.results = s.results
  queue : t.queue.filter (fun r => r.port != p) = s.queue.filter (fun r => r.port != p)
  quiet : s.FetchQuiet → t.FetchQuiet
  entry : s.FetchQuiet → ∀ p' ≠ p, entryOf p' t.reports = entryOf p' s.reports
  only : t.OnlyAt p

/-- What the arbiter finds free is found free before. -/
def State.NoFreer (s t : State) : Prop :=
  (∀ b, (t.bank b).isNone → (s.bank b).isNone) ∧ ∀ e, (t.engine e).state = .idle → (s.engine e).state = .idle

theorem State.NoFreer.of_eq {s t : State} (hb : t.banks = s.banks) (he : t.engines = s.engines) : s.NoFreer t := by
  constructor
  · intro b; simp only [State.bank, hb, imp_self]
  · intro e; simp only [State.engine, he, imp_self]

theorem State.NoFreer.choosable {s t : State} (h : s.NoFreer t) {r : TestRecord} (hr : s.choosable r = false) :
    t.choosable r = false := by
  by_contra hc
  have hi : (t.idleEngine (bankOf r.port)).isSome → (s.idleEngine (bankOf r.port)).isSome := by
    simp only [State.idleEngine, List.find?_isSome, Bool.and_eq_true, beq_iff_eq]
    rintro ⟨e, he, hreach, hidle⟩
    exact ⟨e, he, hreach, h.2 e hidle⟩
  simp only [State.choosable, Bool.not_eq_false, Bool.and_eq_true] at hc
  obtain ⟨⟨hp, hb⟩, he⟩ := hc
  simp [State.choosable, hp, h.1 _ hb, hi he] at hr

/-- The records of other ports are unchanged where only records of `p` were. -/
theorem mem_of_filter_eq {p : PortId} {s t : State}
    (h : t.queue.filter (fun r => r.port != p) = s.queue.filter (fun r => r.port != p)) {r : TestRecord}
    (hr : r ∈ t.queue) (hp : r.port ≠ p) : r ∈ s.queue := by
  have : r ∈ t.queue.filter (fun r => r.port != p) := List.mem_filter.mpr ⟨hr, by simpa using hp⟩
  rw [h] at this
  exact (List.mem_filter.mp this).1

namespace State.OnlyAt

variable {p : PortId} {s t : State}

/-- Where nothing becomes free and other ports' records stay, still only `p` has something to choose. -/
theorem mono (h : s.OnlyAt p) (hq : t.queue.filter (fun r => r.port != p) = s.queue.filter (fun r => r.port != p))
    (hf : s.NoFreer t) (hs : t.queueSound) : t.OnlyAt p :=
  ⟨hs, fun _ hr hp => hf.choosable (h.choosable _ (mem_of_filter_eq hq hr hp) hp)⟩

theorem of_settled (h : s.settled) (hq : s.queueSound) : s.OnlyAt p := ⟨hq, fun r hr _ => h.2 r hr⟩

end State.OnlyAt

namespace Apart

variable {p : PortId} {s t u : State}

theorem refl (h : s.OnlyAt p) : Apart p s s :=
  ⟨fun _ _ => rfl, rfl, fun _ _ => rfl, rfl, rfl, id, fun _ _ _ => rfl, h⟩

theorem trans (h : Apart p s t) (k : Apart p t u) : Apart p s u :=
  ⟨fun p' hp => (k.port p' hp).trans (h.port p' hp), k.profiles.trans h.profiles,
    fun p' hp => (k.recheck p' hp).trans (h.recheck p' hp), k.results.trans h.results, k.queue.trans h.queue,
    fun hq => k.quiet (h.quiet hq), fun hq p' hp => (k.entry (h.quiet hq) p' hp).trans (h.entry hq p' hp), k.only⟩

/-- The record of another port in the test queue stays. -/
theorem recordOf (h : Apart p s t) {p' : PortId} (hp : p' ≠ p) : t.recordOf p' = s.recordOf p' := by
  have hf (q : List TestRecord) :
      q.find? (fun r => r.port == p') = (q.filter (fun r => r.port != p)).find? (fun r => r.port == p') := by
    rw [List.find?_filter]
    congr 1
    funext r
    by_cases e : r.port = p' <;> simp [e, hp]
  unfold State.recordOf
  rw [hf, hf s.queue, h.queue]

end Apart

/-! ### Operations at one port -/

namespace State

variable {p : PortId} {s : State}

theorem FetchQuiet.of_eq {t : State} (h : s.FetchQuiet) (hk : LineKept s t) (hf : t.fetch = s.fetch) : t.FetchQuiet := by
  unfold FetchQuiet
  rwa [hk.fetchAtHand, hf]

theorem FetchQuiet.meetFetch (h : s.FetchQuiet) : s.meetFetch = s := by
  unfold State.meetFetch
  rcases h with h | h
  · simp [h]
  · simp [h]

/-- What writes only the record of `p` and its report entry, and makes nothing free, is an operation at `p`. -/
theorem OnlyAt.apart {t : State} (h : s.OnlyAt p) (hport : ∀ p' ≠ p, t.port p' = s.port p')
    (hprof : t.profiles = s.profiles) (hre : t.recheck = s.recheck) (hres : t.results = s.results) (hq : t.queue = s.queue)
    (hn : t.nextNumber = s.nextNumber) (hf : s.NoFreer t) (hk : LineKept s t) (hfe : s.FetchQuiet → t.fetch = s.fetch)
    (hent : s.FetchQuiet → ∀ p' ≠ p, entryOf p' t.reports = entryOf p' s.reports) : Apart p s t :=
  ⟨hport, hprof, fun _ _ => by simp only [recheckOf, hre], hres, by rw [hq], fun h => h.of_eq hk (hfe h), hent,
    h.mono (by rw [hq]) hf (h.queue.of_eq hq hn)⟩

theorem modPort_apart (h : s.OnlyAt p) (f : Port → Port) : Apart p s (s.modPort p f) :=
  h.apart (fun _ => modPort_port_ne s p f _) rfl rfl rfl rfl rfl (.of_eq rfl rfl) ⟨rfl, rfl, rfl, rfl, rfl, rfl, rfl⟩
    (fun _ => rfl) (fun _ _ _ => rfl)

theorem flagAndReport_apart (h : s.OnlyAt p) (ev : FlagEvent) : Apart p s (s.flagAndReport p ev) := by
  refine h.apart (fun _ => flagAndReport_port_ne s p ev) (by simp) (by simp) (by simp) (by simp) (by simp)
    (.of_eq (by simp) (by simp)) (by constructor <;> simp) (fun _ => by simp) (fun _ p' hp => ?_)
  rw [flagAndReport_reports]
  split
  · exact entryOf_addEvent_ne hp _ _ _
  · rfl

theorem holdNotice_apart (h : s.OnlyAt p) (n : Nat) (k : Option EventKind) : Apart p s (s.holdNotice p n k) := by
  refine h.apart (fun p' _ => holdNotice_port s p n k p') (by simp) (by simp) (by simp) (by simp) (by simp)
    (.of_eq (by simp) (by simp)) (by constructor <;> simp) (fun hq => ?_) (fun hq p' hp => ?_)
  · unfold holdNotice
    split
    · rw [hq.meetFetch]; rfl
    · rfl
  · unfold holdNotice
    split
    · rw [hq.meetFetch]; exact entryOf_attachHold_ne hp _ _ _
    · rfl

theorem setReports_apart (h : s.OnlyAt p) {l : List Entry} (hl : ∀ p' ≠ p, entryOf p' l = entryOf p' s.reports) :
    Apart p s (s.setReports l) :=
  h.apart (fun _ _ => rfl) rfl rfl rfl rfl rfl (.of_eq rfl rfl) ⟨rfl, rfl, rfl, rfl, rfl, rfl, rfl⟩ (fun _ => rfl)
    (fun _ => hl)

/-- A write of the queue that leaves the records of other ports. -/
theorem setQueue_apart (h : s.OnlyAt p) {q : List TestRecord}
    (hq : q.filter (fun r => r.port != p) = s.queue.filter (fun r => r.port != p)) (hs : (s.setQueue q).queueSound) :
    Apart p s (s.setQueue q) :=
  ⟨fun _ _ => rfl, rfl, fun _ _ => rfl, rfl, hq, fun hf => hf.of_eq ⟨rfl, rfl, rfl, rfl, rfl, rfl, rfl⟩ rfl,
    fun _ _ _ => rfl, h.mono hq (.of_eq rfl rfl) hs⟩

/-- A completion of a record of `p`: no other port's record has its number. -/
theorem completeRecord_apart (h : s.OnlyAt p) {r : TestRecord} (hp : r.port = p)
    (hn : ∀ x ∈ s.queue, x.number = r.number → x.port = p) (x : TestOutcome) (q : Quad PairRecord) :
    Apart p s (s.completeRecord r x q) := by
  have hq : Apart p s (s.setQueue (s.queue.filter (fun y => y.number != r.number))) := by
    refine setQueue_apart h ?_ (h.queue.of_sublist List.filter_sublist rfl)
    rw [List.filter_filter]
    refine List.filter_congr fun y hy => ?_
    by_cases e : y.number = r.number
    · simp [hn y hy e]
    · simp [e]
  have hf := hq.trans (flagAndReport_apart hq.only (.testDone (summaryOf r.number x q)))
  subst hp
  exact hf.trans (setReports_apart hf.only fun p' hp => entryOf_releaseHold_ne hp _ _ _ _)

/-- Changing the records of one number of `p`, but for their port and number, leaves the others. -/
theorem mapQueue_apart (h : s.OnlyAt p) {n : Nat} {f : TestRecord → TestRecord}
    (hn : ∀ x ∈ s.queue, x.number = n → x.port = p) (hf : ∀ r, (f r).port = r.port ∧ (f r).number = r.number)
    (hid : ∀ r, r.number ≠ n → f r = r) : Apart p s (s.setQueue (s.queue.map f)) := by
  refine setQueue_apart h ?_ (h.queue.of_map hf rfl rfl)
  rw [List.filter_map]
  have hc : (fun r : TestRecord => r.port != p) ∘ f = fun r => r.port != p := by
    funext r
    simp [(hf r).1]
  rw [hc]
  conv_rhs => rw [← List.map_id (List.filter (fun r => r.port != p) s.queue)]
  refine List.map_congr_left fun r hr => ?_
  obtain ⟨hm, hp⟩ := List.mem_filter.mp hr
  refine hid r fun e => ?_
  simp [hn r hm e] at hp

theorem duePass_apart (h : s.OnlyAt p) (b : Bool) : Apart p s (s.duePass b) :=
  h.apart (fun _ _ => rfl) rfl rfl rfl rfl rfl (.of_eq rfl rfl) ⟨rfl, rfl, rfl, rfl, rfl, rfl, rfl⟩ (fun _ => rfl)
    (fun _ _ _ => rfl)

/-- All records with the number of a record of `p` are its own. -/
theorem OnlyAt.number_port (h : s.OnlyAt p) {r : TestRecord} (hr : r ∈ s.queue) (hp : r.port = p) :
    ∀ x ∈ s.queue, x.number = r.number → x.port = p :=
  fun _ hx e => h.queue.eq_of_number hx hr e ▸ hp

theorem merge_apart (h : s.OnlyAt p) {r : TestRecord} (hr : r ∈ s.queue) (hp : r.port = p) (y : Nat) :
    Apart p s (s.merge r y) := by
  have hq {t : State} (ht : Apart p s t) (he : t.queue = s.queue) :
      Apart p s (t.setQueue (raiseTo r.number y t.queue)) := by
    refine ht.trans (mapQueue_apart ht.only (n := r.number) ?_ (fun x => ?_) fun x hx => ?_)
    · rw [he]
      exact h.number_port hr hp
    · split <;> exact ⟨rfl, rfl⟩
    · simp [hx]
  unfold merge
  dsimp only
  split
  · exact hq (duePass_apart h true) rfl
  · exact hq (.refl h) rfl

/-- A submission at `p` leaves the other ports (R68). -/
theorem submit_apart (h : s.OnlyAt p) (k : Option EventKind) : Apart p s (s.submit p k) := by
  unfold submit
  dsimp only
  split
  · next r hr =>
    obtain ⟨hm, hp⟩ := recordOf_mem hr
    have hg := merge_apart h hm hp (if k.isSome then (s.profile p).autoPriority else (s.profile p).recheckPriority)
    exact hg.trans (holdNotice_apart hg.only _ _)
  · next hr =>
    obtain ⟨hmem, hfree⟩ := h.queue.takeNumber
    split
    · have hq : Apart p s ((s.setNextNumber (nextTestNumber s.takeNumber)).setQueue
          (s.queue ++ [submitted (s.profile p) p s.takeNumber k])) := by
        refine ⟨fun _ _ => rfl, rfl, fun _ _ => rfl, rfl, ?_,
          fun hf => hf.of_eq ⟨rfl, rfl, rfl, rfl, rfl, rfl, rfl⟩ rfl, fun _ _ _ => rfl, ?_⟩
        · simp [List.filter_append, submitted]
        · exact h.mono (by simp [List.filter_append, submitted]) (.of_eq rfl rfl)
            (h.queue.of_append (r := submitted (s.profile p) p s.takeNumber k) hr rfl rfl rfl)
      have hh := hq.trans (holdNotice_apart hq.only s.takeNumber k)
      exact hh.trans (duePass_apart hh.only true)
    · have hn : Apart p s (s.setNextNumber (nextTestNumber s.takeNumber)) := by
        refine ⟨fun _ _ => rfl, rfl, fun _ _ => rfl, rfl, rfl,
          fun hf => hf.of_eq ⟨rfl, rfl, rfl, rfl, rfl, rfl, rfl⟩ rfl, fun _ _ _ => rfl, ?_⟩
        obtain ⟨hp, hnum, hr, -, -⟩ := h.queue
        exact h.mono rfl (.of_eq rfl rfl) ⟨hp, hnum, hr, nextTestNumber_mem hmem.1 hmem.2⟩
      have hh := hn.trans (holdNotice_apart hn.only s.takeNumber k)
      refine hh.trans (completeRecord_apart hh.only rfl (fun x hx e => ?_) _ _)
      exact absurd e (hfree x (by simpa using hx))

theorem flagEvent_apart (h : s.OnlyAt p) (ev : FlagEvent) : Apart p s (s.flagEvent p ev) := by
  have hf := flagAndReport_apart h ev
  unfold flagEvent
  dsimp only
  split
  · exact hf.trans (submit_apart hf.only _)
  · exact hf

theorem flagEvents_apart (h : s.OnlyAt p) (evs : List FlagEvent) : Apart p s (s.flagEvents p evs) := by
  induction evs generalizing s with
  | nil => exact .refl h
  | cons ev rest ih => exact (flagEvent_apart h ev).trans (ih (flagEvent_apart h ev).only)

theorem offerWord_apart (h : s.OnlyAt p) (old : CondWord) : Apart p s (s.offerWord p old) := by
  have hc : Apart p s (s.setPort p (s.port p).compare) := modPort_apart h Port.compare
  unfold offerWord
  dsimp only
  split
  · exact .refl h
  · split
    · exact hc.trans (flagEvent_apart hc.only _)
    · exact hc

/-- A change of port `p` leaves the other ports (R45, R58). -/
theorem change_apart (h : s.OnlyAt p) (f : Port → Port) (evs : List FlagEvent) : Apart p s (s.change p f evs) := by
  have hm := modPort_apart h f
  have he := hm.trans (flagEvents_apart hm.only evs)
  exact he.trans (offerWord_apart he.only _)

/-! ### The grant pass -/

theorem portToTest_apart (h : s.OnlyAt p) : Apart p s (s.portToTest p) := by
  unfold portToTest
  split
  · have hm := modPort_apart h (fun q => (q.recordDown .test).enterTest)
    exact hm.trans (flagEvent_apart hm.only _)
  · exact modPort_apart h _

theorem setBank_apart (h : s.OnlyAt p) (b : BankId) (u : BankUse) : Apart p s (s.setBank b (some u)) := by
  refine h.apart (fun _ _ => rfl) rfl rfl rfl rfl rfl ⟨fun b' hb => ?_, fun _ he => he⟩
    ⟨rfl, rfl, rfl, rfl, rfl, rfl, rfl⟩ (fun _ => rfl) (fun _ _ _ => rfl)
  by_cases e : b' = b
  · subst e
    simp at hb
  · rwa [setBank_bank_ne _ _ _ _ e] at hb

theorem setEngine_apart (h : s.OnlyAt p) (e : EngineId) {x : Engine} (hx : x.state ≠ .idle) :
    Apart p s (s.setEngine e x) := by
  refine h.apart (fun _ _ => rfl) rfl rfl rfl rfl rfl ⟨fun _ hb => hb, fun e' he => ?_⟩
    ⟨rfl, rfl, rfl, rfl, rfl, rfl, rfl⟩ (fun _ => rfl) (fun _ _ _ => rfl)
  by_cases ee : e' = e
  · subst ee
    exact absurd (by simpa using he) hx
  · rwa [setEngine_engine_ne _ _ _ _ ee] at he

theorem claim_apart (h : s.OnlyAt p) (e : EngineId) (n : Nat) (t : Option SlotId) : Apart p s (s.claim e n t) := by
  unfold claim
  split
  · exact h.apart (fun _ _ => rfl) rfl rfl rfl rfl rfl (.of_eq rfl rfl) ⟨rfl, rfl, rfl, rfl, rfl, rfl, rfl⟩
      (fun _ => rfl) (fun _ _ _ => rfl)
  · exact .refl h

/-- A grant to a record of `p` leaves the other ports, and makes nothing free (R87). -/
theorem grantEngine_apart (h : s.OnlyAt p) {r : TestRecord} (hr : r ∈ s.queue) (hp : r.port = p) (e : EngineId) :
    Apart p s (s.grantEngine r e) := by
  have hq : Apart p s (s.setQueue (runRecord r.number e s.queue)) := by
    refine mapQueue_apart h (h.number_port hr hp) (fun x => ?_) fun x hx => ?_
    · split <;> exact ⟨rfl, rfl⟩
    · simp [hx]
  subst hp
  have hb := hq.trans (setBank_apart hq.only (bankOf r.port) { port := r.port, engine := e })
  have ht := hb.trans (portToTest_apart hb.only)
  have hc (x : Option SlotId) := ht.trans (claim_apart ht.only e r.number x)
  exact (hc _).trans (setEngine_apart (hc _).only e (by simp [engineFor]))

theorem grant_apart (h : s.OnlyAt p) {r : TestRecord} (hr : r ∈ s.queue) (hp : r.port = p) (e : EngineId) :
    Apart p s (s.grant r e) := by
  unfold grant
  split
  · exact completeRecord_apart h hp (h.number_port hr hp) _ _
  · exact grantEngine_apart h hr hp e

/-- The record chosen is one of those asked for. -/
theorem bestRecord_mem {r : TestRecord} : ∀ {l : List TestRecord}, bestRecord l = some r → r ∈ l
  | [], h => by simp [bestRecord] at h
  | x :: l, h => by
    unfold bestRecord at h
    split at h
    · next y hy =>
      split at h
      · obtain rfl := Option.some.inj h
        exact .tail _ (bestRecord_mem hy)
      · obtain rfl := Option.some.inj h
        exact .head _
    · obtain rfl := Option.some.inj h
      exact .head _

/-- The pass chooses a record of the queue that may be chosen (R84). -/
theorem choice_mem {r : TestRecord} (h : s.choice = some r) : r ∈ s.queue ∧ s.choosable r = true :=
  List.mem_filter.mp (bestRecord_mem h)

/-- A pass that can choose only at `p` leaves the other ports (R84). -/
theorem grantPass_apart (h : s.OnlyAt p) : Apart p s s.grantPass := by
  refine passFuel_rec (P := Apart p s) (fun t r e hc _ ht => ?_) _ _ (.refl h)
  obtain ⟨hm, hr⟩ := choice_mem hc
  have hp : r.port = p := by
    by_contra hp
    exact absurd hr (by simp [ht.only.choosable r hm hp])
  exact ht.trans (grant_apart ht.only hm hp e)

theorem settle_apart (h : s.OnlyAt p) : Apart p s s.settle := by
  have hd := duePass_apart h false
  unfold settle
  split
  · exact hd.trans (grantPass_apart hd.only)
  · exact .refl h

end State

namespace Apart

variable {p : PortId} {s t : State}

theorem settle (h : Apart p s t) : Apart p s t.settle := h.trans (State.settle_apart h.only)

theorem change (h : Apart p s t) (f : Port → Port) (evs : List FlagEvent) : Apart p s (t.change p f evs) :=
  h.trans (State.change_apart h.only f evs)

theorem arrive {f : State → State} (h : s.OnlyAt p) (hf : Apart p s (f s)) : Apart p s (s.arrive f) := by
  unfold State.arrive
  split
  · exact .refl h
  · exact hf.settle

theorem marginSample (h : s.OnlyAt p) (x : Nat) : Apart p s (s.marginSample p x) := by
  have hc : Apart p s (s.sampleChange p x) := (Apart.refl h).change _ _
  unfold State.marginSample
  split
  · unfold State.dropChange
    split
    · split
      · exact hc.change _ _
      · exact hc
    · exact hc
  · exact .refl h

theorem recheckExpired (h : s.OnlyAt p) : Apart p s (s.recheckExpired p) := by
  have hr {t : State} (ht : Apart p s t) (x : Option Nat) : Apart p s (t.setRecheck p x) := by
    refine ht.trans ⟨fun _ _ => rfl, rfl, fun _ => State.setRecheck_recheckOf_ne t p x _, rfl, rfl,
      fun hf => hf.of_eq ⟨rfl, rfl, rfl, rfl, rfl, rfl, rfl⟩ rfl, fun _ _ _ => rfl, ?_⟩
    exact ht.only.mono rfl (.of_eq rfl rfl) (ht.only.queue.of_eq rfl rfl)
  unfold State.recheckExpired
  split
  · exact .refl h
  · refine Apart.settle (hr ?_ _)
    split
    · exact .refl h
    · exact State.submit_apart h none

end Apart

/-- Settles O60: each of these commands is operations at its port alone, and the pass after it can choose only there. -/
theorem otherPortsAreLeftAlone : Obligations.OtherPortsAreLeftAlone := by
  intro s t p p' i hset hq hp hi hc
  have h : s.OnlyAt p := .of_settled hset hq
  have hr := Apart.refl h
  have ha : Apart p s t := by
    rcases hc with rfl | rfl | ⟨w, rfl⟩ | ⟨m, map, polarity, rfl⟩ | rfl | ⟨x, rfl⟩ | rfl | rfl | rfl | rfl | rfl |
      rfl <;>
      obtain rfl := Host.Outcome.next.inj hi
    · exact .arrive h (hr.change _ _)
    · exact .arrive h (hr.change _ _)
    · exact .arrive h (hr.change _ _)
    · exact .arrive h (hr.change _ _)
    · exact .arrive h (hr.change _ _)
    · exact .arrive h (.marginSample h _)
    · exact .arrive h (hr.change _ _)
    · exact (hr.change _ _).settle
    · exact (hr.change _ _).settle
    · exact (hr.change _ _).settle
    · exact (hr.change _ _).settle
    · exact .recheckExpired h
  have hprof : t.profile p' = s.profile p' := by simp only [State.profile, ha.profiles]
  have hres : t.result p' = s.result p' := by simp only [State.result, ha.results]
  exact ⟨ha.port p' hp, hprof, ha.recheck p' hp, hres, ha.recordOf hp, fun hf => ha.entry hf p' hp⟩

end Sys2Proof.Machine
end

section
/-! SUPPORT. The link state machine: energy, partner words, resolution and the port timers (chapter 1). -/

namespace Sys2Proof.Machine

/-! ### Causes at one port -/

namespace State

/-- An arrival at a running part takes its effect and settles (R58, R189). -/
theorem arrive_of_running {s : State} (h : s.resetLow = false) (f : State → State) : s.arrive f = (f s).settle := by
  simp [arrive, h]

/-- A change by a function of the record is the move to that record. -/
theorem change_settle_eq_becomes (s : State) (p : PortId) (f : Port → Port) (evs : List FlagEvent) :
    (s.change p f evs).settle = s.becomes p (f (s.port p)) evs := rfl

/-- A cause that moves nothing and flags nothing leaves a part with no pass due as it is. -/
theorem becomes_same {s : State} (h : s.passDue = false) (p : PortId) : s.becomes p (s.port p) [] = s := by
  have hc : s.change p (fun _ => s.port p) [] = s := by simp [change, flagEvents, modPort, offerWord]
  rw [becomes, hc]
  simp [settle, h]

end State

theorem exec_energyPresent {s : State} (h : s.resetLow = false) (p : PortId) :
    exec (.energyPresent p) s = .next (s.becomes p ((s.port p).energyOn p (s.profile p)) []) := by
  simp only [exec, execEnergyPresent, State.arrive_of_running h, State.change_settle_eq_becomes]

theorem exec_energyAbsent {s : State} (h : s.resetLow = false) (p : PortId) :
    exec (.energyAbsent p) s = .next (s.becomes p ((s.port p).energyOff p (s.profile p)) []) := by
  simp only [exec, execEnergyAbsent, State.arrive_of_running h, State.change_settle_eq_becomes]

theorem exec_partnerWord {s : State} (h : s.resetLow = false) (p : PortId) (w : PartnerWord) {m : Moved}
    (hm : (s.port p).hear p (s.profile p) w = m) : exec (.partnerWord p w) s = .next (s.becomes p m.port m.events) := by
  subst hm
  simp only [exec, execPartnerWord, State.arrive_of_running h, State.move, State.change_settle_eq_becomes]

/-! ### Energy (R4, R5, R6, R23, R29, R36) -/

namespace Port

variable {q : Port}

theorem energyOn_of_listen (h : q.state = .listen) (p : PortId) (r : Profile) :
    q.energyOn p r = goFromListen p r { q with energy := true } := by
  simp only [energyOn, h]

theorem energyOn_of_stalled (h : q.state = .stalled) (p : PortId) (r : Profile) :
    q.energyOn p r = { q with energy := true, absence := false } := by
  simp only [energyOn, h]

/-- Outside LISTEN and STALLED energy is only noted (R4, R36). -/
theorem energyOn_of_other {x : LinkState} (hx : q.state = x) (p : PortId) (r : Profile) (hl : x ≠ .listen := by decide)
    (hs : x ≠ .stalled := by decide) : q.energyOn p r = { q with energy := true } := by
  subst hx
  unfold energyOn
  dsimp only
  split
  case h_1 e => exact absurd e hl
  case h_2 e => exact absurd e hs
  all_goals rfl

/-- In LISTEN and STALLED the energy-absence timer starts when energy goes (R5, R36). -/
theorem energyOff_of_waiting (h : q.state = .listen ∨ q.state = .stalled) (p : PortId) (r : Profile) :
    q.energyOff p r = { q with energy := false, absence := true } := by
  rcases h with e | e <;> simp only [energyOff, e]

/-- An exchange and a training fall back to LISTEN when energy goes (R23, R29). -/
theorem energyOff_of_busy (h : q.state = .offer ∨ q.state = .extend ∨ q.state = .train) (p : PortId) (r : Profile) :
    q.energyOff p r = listening p r { q with energy := false } := by
  rw [← enterListen_eq]
  rcases h with e | e | e <;> simp only [energyOff, e]

/-- In the other link states the loss of energy is only noted (R4). -/
theorem energyOff_of_other (h : q.state = .disabled ∨ q.state = .up ∨ q.state = .holdoff ∨ q.state = .test) (p : PortId)
    (r : Profile) : q.energyOff p r = { q with energy := false } := by
  rcases h with e | e | e | e <;> simp only [energyOff, e]

end Port

/-- Settles O34: each link state's own answer to energy, the passages into LISTEN being `Port.listening`. -/
theorem energyArrivals : Obligations.EnergyArrivals := by
  rintro s p q hlow rfl
  refine ⟨fun hs hx => ?_, ?_⟩
  · rw [exec_energyPresent hlow]
    refine congrArg (fun q => Host.Outcome.next (s.becomes p q [])) ?_
    split
    case h_1 hl =>
      rw [Port.energyOn_of_listen hl]
      exact Port.goFromListen_eq ((hs.unlinked (.inl hl)).set_energy true) rfl (hx.1 hl) p (s.profile p)
    case h_2 hl => exact Port.energyOn_of_stalled hl p _
    all_goals
      next hl => exact Port.energyOn_of_other hl p _
  · rw [exec_energyAbsent hlow]
    refine congrArg (fun q => Host.Outcome.next (s.becomes p q [])) ?_
    split
    case h_1 hl => exact Port.energyOff_of_waiting (.inl hl) p _
    case h_2 hl => exact Port.energyOff_of_waiting (.inr hl) p _
    case h_3 hl => exact Port.energyOff_of_busy (.inl hl) p _
    case h_4 hl => exact Port.energyOff_of_busy (.inr (.inl hl)) p _
    case h_5 hl => exact Port.energyOff_of_busy (.inr (.inr hl)) p _
    case h_6 hl => exact Port.energyOff_of_other (.inl hl) p _
    case h_7 hl => exact Port.energyOff_of_other (.inr (.inl hl)) p _
    case h_8 hl => exact Port.energyOff_of_other (.inr (.inr (.inl hl))) p _
    case h_9 hl => exact Port.energyOff_of_other (.inr (.inr (.inr hl))) p _

/-! ### What is discarded (R4, R189) -/

/-- Settles O35: an arrival or expiry out of place moves its port to the record it has. -/
theorem arrivalsOutOfPlace : Obligations.ArrivalsOutOfPlace := by
  intro s p w m x map polarity
  refine ⟨fun hlow c hc => ?_, fun hd => ?_⟩
  · simp only [List.mem_cons, List.not_mem_nil, or_false] at hc
    rcases hc with rfl | rfl | rfl | rfl | rfl | rfl | rfl <;>
      simp only [exec, execEnergyPresent, execEnergyAbsent, execPartnerWord, execTrainingConverged, execTrainingFailed,
        execMarginSample, execSignalLost, State.arrive, hlow, if_true]
  · have hsame : s.becomes p (s.port p) [] = s := State.becomes_same hd p
    have hmove {y : Moved} (hy : y = quiet (s.port p)) : (s.move p y).settle = s := by rw [hy]; exact hsame
    have harr {f : State → State} (hf : (f s).settle = s) : s.arrive f = s := by
      unfold State.arrive
      split
      · rfl
      · exact hf
    have hset : s.settle = s := by simp [State.settle, hd]
    refine ⟨fun ho he => ?_, fun ht => ⟨?_, ?_⟩, fun hu => ⟨?_, ?_⟩, fun ht => ?_, fun ht => ?_, fun hh => ?_,
      fun ha => ?_⟩
    · exact congrArg _ (harr (hmove (by simp [Port.hear, ho, he])))
    · refine congrArg _ (harr (hmove ?_))
      unfold Port.converged
      split
      · exact absurd ‹_› ht
      · rfl
    · refine congrArg _ (harr (hmove ?_))
      unfold Port.failTraining
      split
      · exact absurd ‹_› ht
      · rfl
    · exact congrArg _ (harr (by simp [State.marginSample, hu, hset]))
    · exact congrArg _ (harr (hmove (by simp [Port.loseSignal, hu])))
    · exact congrArg _ (hmove (by simp [Port.exchangeExpired, ht]))
    · exact congrArg _ (hmove (by simp [Port.trainingExpired, ht]))
    · have : (s.port p).holdoffEnded p (s.profile p) = s.port p := by simp [Port.holdoffEnded, hh]
      exact congrArg _ ((congrArg (s.becomes p · []) this).trans hsame)
    · have : (s.port p).absenceExpired p (s.profile p) = s.port p := by simp [Port.absenceExpired, ha]
      exact congrArg _ ((congrArg (s.becomes p · []) this).trans hsame)

/-! ### Partner words (R7) -/

/-- The third arrival in a row is handed to the rule of its kind, with itself as the candidate (R7). -/
theorem exec_partnerWord_accepts {s : State} {p : PortId} {w : PartnerWord} {q : Port} (h : s.accepts p w q)
    (hs : q.state = .offer ∨ q.state = .extend) {m : Moved} (hm : q.accept p (s.profile p) w = m) :
    exec (.partnerWord p w) s = .next (s.becomes p m.port m.events) := by
  obtain ⟨hlow, hc, rfl⟩ := h
  refine exec_partnerWord hlow p w ?_
  have hs' : (s.port p).state = .offer ∨ (s.port p).state = .extend := hs
  simp only [Port.hear, hs', hc, if_true, ← hm]
  rfl

/-- Settles O36: the four places of the filter. -/
theorem partnerWordFilter : Obligations.PartnerWordFilter := by
  intro s p w hlow hs
  refine ⟨fun hn => ?_, fun hc => ?_, fun hc hd => ?_, fun q m ha hm => ?_⟩
  · refine exec_partnerWord hlow p w (m := quiet { s.port p with candidate := some (w, 1) }) ?_
    unfold Port.hear
    rw [if_pos hs]
    split
    · next x n hc =>
      have hx : x ≠ w := fun e => hn n (e ▸ hc)
      rw [if_neg hx]
    · rfl
  · refine exec_partnerWord hlow p w (m := quiet { s.port p with candidate := some (w, 2) }) ?_
    simp [Port.hear, hs, hc]
  · have hq : (s.port p).hear p (s.profile p) w = quiet (s.port p) := by simp [Port.hear, hs, hc]
    exact (exec_partnerWord hlow p w hq).trans (congrArg _ (State.becomes_same hd p))
  · exact exec_partnerWord_accepts ha (by obtain ⟨-, -, rfl⟩ := ha; exact hs) hm.symm

/-! ### The exchange (R9, R10, R14 to R17) -/

/-- Settles O37: an accepted word in OFFER, by its kind, by HEARD and by the pages of either side. -/
theorem offerPhase : Obligations.OfferPhase := by
  intro s p own q hs hown
  have hex {w : PartnerWord} (ha : s.accepts p w q) {m : Moved} (hm : q.accept p (s.profile p) w = m) :
      exec (.partnerWord p w) s = .next (s.becomes p m.port m.events) := exec_partnerWord_accepts ha (.inl hs) hm
  have hoff {o : OfferWord} {h : Port}
      (hh : h = { q with partnerOffer := some o, ownOffer := some { own with heard := true } }) :
      q.accept p (s.profile p) (.offer o) = if o.heard then h.completeOffer p (s.profile p) else quiet h := by
    have hacc : q.accept p (s.profile p) (.offer o) = q.acceptOffer p (s.profile p) o := by simp only [Port.accept, hs]
    rw [hacc, Port.acceptOffer, hown, hh]
    rfl
  refine ⟨fun o h ha hh => ⟨fun hf => ?_, fun hf hp => ?_, fun hf hp ho => ?_⟩, fun g ha => ⟨fun hf => ?_, ?_, ?_⟩⟩
  · refine hex ha (m := quiet h) ?_
    simp [hoff hh, hf]
  · refine hex ha (m := quiet h.extending) ?_
    have hany : h.anyPages = true := by rcases hp with e | e <;> simp [hh, Port.anyPages, e]
    simp [hoff hh, hf, Port.completeOffer, hany, Port.enterExtend_eq]
  · refine hex ha ?_
    have hany : h.anyPages = false := by simp [hh, Port.anyPages, hp, ho]
    simp [hoff hh, hf, Port.completeOffer, hany]
  · refine hex ha (m := quiet q) ?_
    simp [Port.accept, hs, Port.pageInOffer, Port.heard, hown, hf]
  · rintro o hf ho hp m rfl
    refine hex ha ?_
    have hany : q.anyPages = true := by rcases hp with e | e <;> simp [hown, ho, Port.anyPages, e]
    rw [← Port.enterExtend_eq]
    simp [Port.accept, hs, Port.pageInOffer, Port.heard, hown, hf, hany]
  · intro o hf ho hp hp'
    refine hex ha ?_
    have hany : q.anyPages = false := by simp [hown, ho, Port.anyPages, hp, hp']
    simp [Port.accept, hs, Port.pageInOffer, Port.heard, hown, hf, hany]

/-- Settles O38: a page word through `Port.afterAck` and `Port.afterPage`, an offer word through the entry to OFFER. -/
theorem extensionPages : Obligations.ExtensionPages := by
  intro p r q hs
  refine ⟨fun g => ?_, fun s g ha hr => ?_, fun s o ha hr hst => ?_⟩
  · have hacc : q.acceptPage p r g =
        if ((q.afterAck g).afterPage g).localDone && ((q.afterAck g).afterPage g).partnerDone
        then ((q.afterAck g).afterPage g).resolve p r else quiet ((q.afterAck g).afterPage g) := by
      rw [Port.acceptPage, Port.takeAck_eq, Port.takePage_eq]
    refine ⟨fun hl hp => ?_, fun h => ?_⟩
    · rw [hacc, hl, hp]
      rfl
    · rw [hacc]
      rcases h with e | e <;> simp [e]
  · refine exec_partnerWord_accepts ha (.inr hs) ?_
    simp only [Port.accept, hs, hr]
  · have hacc : q.accept p (s.profile p) (.offer o) = quiet (q.enterOffer p r) := by simp only [Port.accept, hs, hr]
    rw [Port.enterOffer_eq (hst.unlinked (.inr (.inr hs)))] at hacc
    exact exec_partnerWord_accepts ha (.inr hs) hacc

/-! ### Resolution (R19 to R21) -/

theorem highestSpeed_eq_none_iff (x : SpeedSet) : highestSpeed x = none ↔ x = 0 := by
  revert x
  decide

/-- The highest class of a set is the one with no other above it. -/
theorem highestSpeed_eq_some {x : SpeedSet} {c : Speed} (h : hasSpeed x c = true)
    (ha : ∀ c' : Speed, c.idx < c'.idx → hasSpeed x c' = false) : highestSpeed x = some c := by
  have h0 := ha .s100
  have h1 := ha .s1g
  have h2 := ha .s2g5
  have h3 := ha .s5g
  have h4 := ha .s10g
  cases c <;> simp_all [Speed.idx, highestSpeed]

section
variable {q : Port} {o w : OfferWord} {c : Speed}

theorem Port.resolve_of_role (q : Port) (ho : q.ownOffer = some o) (hw : q.partnerOffer = some w)
    (hc : highestSpeed (o.speeds &&& w.speeds) = some c) {x : Role} (hx : resolveRole o w = some (.role x)) (p : PortId)
    (r : Profile) : q.resolve p r = quiet (Port.trainingAt c x { q with tie := 0 }) := by
  rw [← enterTrain_eq]
  unfold resolve
  rw [ho, hw]
  simp only [hc, hx]

theorem Port.resolve_of_conflict (q : Port) (ho : q.ownOffer = some o) (hw : q.partnerOffer = some w)
    (hc : highestSpeed (o.speeds &&& w.speeds) = some c) (hx : resolveRole o w = some .conflict) (p : PortId)
    (r : Profile) : q.resolve p r = { port := q.stalling .roleConflict, events := [.stall .roleConflict] } := by
  rw [← enterStalled_eq]
  unfold resolve
  rw [ho, hw]
  simp only [hc, hx, Port.stall]

theorem Port.resolve_of_tie (q : Port) (ho : q.ownOffer = some o) (hw : q.partnerOffer = some w)
    (hc : highestSpeed (o.speeds &&& w.speeds) = some c) (hx : resolveRole o w = none) (p : PortId) (r : Profile) :
    q.resolve p r = q.tied p r := by
  unfold resolve
  rw [ho, hw]
  simp only [hc, hx]

end

/-- The role of two offers, by what each class insists on and asks for (R20). -/
theorem resolveRole_eq {o w : OfferWord} {x : Role}
    (h : (roleForces o.roleClass = true ∧ w.roleClass ≠ o.roleClass ∧ x = roleAsked o.roleClass) ∨
      (roleForces o.roleClass = false ∧ roleForces w.roleClass = true ∧ x = otherRole (roleAsked w.roleClass)) ∨
      (roleForces o.roleClass = false ∧ roleForces w.roleClass = false ∧ w.roleClass ≠ o.roleClass ∧
        x = roleAsked o.roleClass) ∨
      (roleForces o.roleClass = false ∧ w.roleClass = o.roleClass ∧
        (w.seed.toNat < o.seed.toNat ∧ x = .lead ∨ o.seed.toNat < w.seed.toNat ∧ x = .follow))) :
    resolveRole o w = some (.role x) := by
  rcases h with ⟨hf, hne, rfl⟩ | ⟨hf, hw, rfl⟩ | ⟨hf, hw, hne, rfl⟩ | ⟨hf, he, hseed⟩
  · cases ho : o.roleClass <;> cases hw : w.roleClass <;> simp_all [roleForces, resolveRole, roleTable, roleAsked]
  · cases ho : o.roleClass <;> cases hw' : w.roleClass <;>
      simp_all [roleForces, resolveRole, roleTable, roleAsked, otherRole]
  · cases ho : o.roleClass <;> cases hw' : w.roleClass <;> simp_all [roleForces, resolveRole, roleTable, roleAsked]
  · have ht : roleTable o.roleClass w.roleClass = .bySeed := by
      rw [he]
      cases ho : o.roleClass <;> simp_all [roleForces, roleTable]
    unfold resolveRole
    rw [ht]
    rcases hseed with ⟨hs, rfl⟩ | ⟨hs, rfl⟩
    · simp only [hs, if_true]
    · simp only [hs, if_true, Nat.not_lt.mpr hs.le, if_false]

/-- Equal classes that only prefer, with equal seeds, tie (R20). -/
theorem resolveRole_eq_none {o w : OfferWord} (hf : roleForces o.roleClass = false) (he : w.roleClass = o.roleClass)
    (hs : w.seed = o.seed) : resolveRole o w = none := by
  cases ho : o.roleClass <;> simp_all [roleForces, resolveRole, roleTable]

/-- Settles O39: the four outcomes of a resolution, the role table against its description by what a class insists on and
asks for. -/
theorem resolutionOfSpeedAndRole : Obligations.ResolutionOfSpeedAndRole := by
  refine ⟨rfl, fun p r q o w ho hw => ⟨fun h0 => ?_, fun c hc hmax => ?_⟩⟩
  · have hn := (highestSpeed_eq_none_iff _).mpr h0
    simp only [Port.resolve, ho, hw, hn, Port.stall, Port.enterStalled_eq]
  · have hh := highestSpeed_eq_some hc hmax
    refine ⟨fun hf he => ?_, fun x hx => ?_, fun hf he hseed => ⟨fun ht => ?_, fun ht hst hs => ?_⟩⟩
    · have hrole : resolveRole o w = some .conflict := by
        cases hc : o.roleClass <;> simp_all [roleForces, resolveRole, roleTable]
      exact q.resolve_of_conflict ho hw hh hrole p r
    · exact q.resolve_of_role ho hw hh (resolveRole_eq hx) p r
    · rw [q.resolve_of_tie ho hw hh (resolveRole_eq_none hf he hseed) p r]
      have : 7 ≤ q.tie + 1 := by omega
      simp only [Port.tied, this, if_true, Port.stall, Port.enterStalled_eq]
    · rw [q.resolve_of_tie ho hw hh (resolveRole_eq_none hf he hseed) p r]
      have h7 : ¬7 ≤ q.tie + 1 := by omega
      simp only [Port.tied, h7, if_false]
      exact congrArg quiet (Port.enterOffer_eq ((hst.unlinked (.inr hs)).set_tie (q.tie + 1)) p r)

/-! ### The port timers (R22, R33, R34, R38) -/

theorem exec_exchangeTimerExpiry {s : State} {p : PortId} {m : Moved}
    (hm : (s.port p).exchangeExpired (s.profile p) = m) :
    exec (.exchangeTimerExpiry p) s = .next (s.becomes p m.port m.events) := by
  subst hm
  rfl

theorem exec_holdoffWaitEnd (s : State) (p : PortId) :
    exec (.holdoffWaitEnd p) s = .next (s.becomes p ((s.port p).holdoffEnded p (s.profile p)) []) := rfl

theorem exec_energyAbsenceTimerExpiry (s : State) (p : PortId) :
    exec (.energyAbsenceTimerExpiry p) s = .next (s.becomes p ((s.port p).absenceExpired p (s.profile p)) []) := rfl

/-- Settles O42: each timer at the record it runs in. -/
theorem portTimers : Obligations.PortTimers := by
  rintro s p q r rfl rfl
  refine ⟨fun ht hs => ?_, fun hh hs => ?_, fun ha hs => ?_, fun ha hs => ?_⟩
  · refine exec_exchangeTimerExpiry
      (m := { port := (s.port p).countTimeout.enterHoldoff (s.profile p), events := [.exchangeTimeout] }) ?_
    rw [Port.exchangeExpired, if_pos ⟨Option.isSome_iff_ne_none.mpr ht, hs⟩]
  · rw [exec_holdoffWaitEnd, Port.holdoffEnded, if_pos ⟨Option.isSome_iff_ne_none.mpr hh, hs⟩, Port.enterListen_eq]
  · have hq : (s.port p).absenceExpired p (s.profile p) = { (s.port p).forgetful with absence := false } := by
      rw [Port.absenceExpired, if_pos ha]
      simp only [hs, Port.clearMemory_eq]
    rw [exec_energyAbsenceTimerExpiry, hq]
  · have hq : (s.port p).absenceExpired p (s.profile p) = (s.port p).forgetful.listening p (s.profile p) := by
      rw [Port.absenceExpired, if_pos ha]
      simp only [hs, Port.clearMemory_eq, Port.enterListen_eq]
    rw [exec_energyAbsenceTimerExpiry, hq]

end Sys2Proof.Machine
end

section
/-! SUPPORT. Requests on a free line: a well-formed request's frame reads back as itself, its owner answers at once, and
its reply begins to leave (R183, R185, R186). -/

namespace Sys2Proof

/-! ### Bytes and bodies (R194, R197, R199) -/

@[simp] theorem word16_hiByte_loByte (w : Word) : word16 (hiByte w) (loByte w) = w := by
  rw [word16, hiByte, loByte, BitVec.extractLsb'_append_extractLsb'_eq_extractLsb' (by rfl)]
  simp

@[simp] theorem word24_extract (w : BitVec 24) :
    word24 (w.extractLsb' 16 8) (w.extractLsb' 8 8) (w.extractLsb' 0 8) = w := by
  rw [word24, BitVec.extractLsb'_append_extractLsb'_eq_extractLsb' (by rfl),
    BitVec.extractLsb'_append_extractLsb'_eq_extractLsb' (by rfl)]
  simp

/-- A profile record reads back from its 36 bytes (R199). -/
@[simp] theorem RawProfile.ofBytes_bytes (r : RawProfile) : RawProfile.ofBytes r.bytes = some r := by
  simp [RawProfile.bytes, RawProfile.ofBytes, bytes16]

/-- Page entries read back from their bytes (R197). -/
@[simp] theorem pagesOfBytes_flatMap : ∀ gs : List Page, pagesOfBytes (gs.flatMap Page.bytes) = some gs
  | [] => rfl
  | g :: gs => by simp [Page.bytes, bytes24, pagesOfBytes, pagesOfBytes_flatMap gs]

/-- A well-formed request reads back from its kind and body (R186, R197). -/
theorem parseRequest_kind_body {r : Request} (h : r.wf = true) : parseRequest r.kind r.body = .request r := by
  cases r with
  | loadPages p gs =>
    have hl : gs.length ≤ 60 := by simpa [Request.wf, pagesFit] using h
    have hn : (byteOf gs.length).toNat = gs.length := by simp [byteOf]; omega
    show readPages (p :: byteOf gs.length :: gs.flatMap Page.bytes) = _
    simp [readPages, hn]
  | setProfile f l x =>
    show readSetProfile (f :: l :: x.bytes) = _
    simp [readSetProfile]
  | clearFlags p k => exact congrArg (fun w => Parsed.request (.clearFlags p w)) (word16_hiByte_loByte k)
  | setWatch p e m =>
    exact congrArg₂ (fun x y => Parsed.request (.setWatch p x y)) (word16_hiByte_loByte e) (word16_hiByte_loByte m)
  | cancelTest x v => exact congrArg (fun w => Parsed.request (.cancelTest x w)) (word16_hiByte_loByte v)
  | readTrace t p f c =>
    exact congrArg₂ (fun x y => Parsed.request (.readTrace t p x y)) (word16_hiByte_loByte f) (word16_hiByte_loByte c)
  | _ => rfl

namespace Machine

/-! ### A request on a free line -/

/-- A command that is a request is its request at the line. -/
theorem exec_of_request {i : Instr} {tag : Byte} {r : Request} (h : i.request = some (tag, r)) (s : State) :
    exec i s = .next (s.hostRequest tag r) := by
  cases i <;> simp only [Instr.request, Option.some.injEq, Prod.mk.injEq, reduceCtorEq] at h <;>
    obtain ⟨rfl, rfl⟩ := h <;> rfl

/-- A frame offered on a free line is dispatched at once (R182, R183). -/
theorem State.lineFree.offerFrame {s : State} (h : s.lineFree) (f : Frame) : s.offerFrame f = s.dispatch f := by
  obtain ⟨hlow, hs, ho, hi⟩ := h
  have hback : (s.setInbox [f]).setInbox [] = s := by rw [← hi]; rfl
  simp only [State.offerFrame, hi, List.length_nil, List.nil_append, Nat.zero_lt_succ, if_true, State.serveIfIdle,
    State.setInbox_sender, hs, State.serve, State.setInbox_overflow, ho, State.setInbox_inbox]
  rw [hback]

/-- A well-formed request on a free line is at its owner at once, and the owner's answer begins to leave. -/
theorem exec_request_of_lineFree {s : State} (h : s.lineFree) {i : Instr} {tag : Byte} {r : Request}
    (hi : i.request = some (tag, r)) (hw : r.wf = true) :
    exec i s = .next ((own r s).1.replied tag (replyKind r.kind) (own r s).2) := by
  have hd : s.dispatch (r.frame tag) = (own r s).1.replied tag (replyKind r.kind) (own r s).2 := by
    unfold State.dispatch
    rw [show (r.frame tag).kind = r.kind from rfl, show (r.frame tag).body = r.body from rfl, parseRequest_kind_body hw]
    rfl
  rw [exec_of_request hi, State.hostRequest, h.1, if_neg (by decide), h.offerFrame, hd]

/-- A byte that names a port leads to it. -/
theorem withPort_of_portIs {b : Byte} {p : PortId} (h : portIs b p) (s : State) (k : PortId → State × Answer) :
    withPort b s k = k p := by
  have hp : portOf b = some p := by
    have := p.isLt
    unfold portIs at h
    simp [portOf, h]
  simp only [withPort, hp]

/-! ### Pages (R11, R12, R18) -/

/-- Settles O17: each of the three requests at its owner. -/
theorem pageRequests : Obligations.PageRequests := by
  intro s tag port p hl hp
  refine ⟨fun gs hgs => ⟨fun hbad => ?_, fun hlen htag n hn => ?_⟩, ?_, ?_⟩
  · have hw : (Request.loadPages port gs).wf = true := by simpa [Request.wf, pagesFit] using hgs
    have ho : own (.loadPages port gs) s = (s, refuse .badValue) := by
      show ownLoadPages port gs s = _
      rw [ownLoadPages, withPort_of_portIs hp]
      split
      · rfl
      · next hn =>
        have ha : gs.any (fun g => g.tag == 0) = true := by
          obtain ⟨g, hg, h0⟩ := hbad.resolve_left hn
          exact List.any_eq_true.mpr ⟨g, hg, by simp [h0]⟩
        rw [if_pos ha]
    rw [exec_request_of_lineFree hl rfl hw, ho]
    rfl
  · have hw : (Request.loadPages port gs).wf = true := by simpa [Request.wf, pagesFit] using hgs
    have hroom : gs.take (8 - (s.port p).pages.length) = gs.take n := by
      rw [List.take_eq_take_iff]
      omega
    have hlen : (gs.take n).length = n := by
      rw [List.length_take]
      omega
    have ho : own (.loadPages port gs) s = (s.setPort p { s.port p with pages := (s.port p).pages ++ gs.take n },
        taken [byteOf n, byteOf ((s.port p).pages.length + n)]) := by
      show ownLoadPages port gs s = _
      rw [ownLoadPages, withPort_of_portIs hp, if_neg (by omega), if_neg (by simpa using htag)]
      simp only [hroom, List.length_append, hlen]
      rfl
    rw [exec_request_of_lineFree hl rfl hw, ho]
    rfl
  · rw [exec_request_of_lineFree hl rfl rfl]
    show Host.Outcome.next (State.replied (ownClearPages port s).1 tag _ (ownClearPages port s).2) = _
    rw [ownClearPages, withPort_of_portIs hp]
    split <;> rfl
  · rw [exec_request_of_lineFree hl rfl rfl]
    show Host.Outcome.next (State.replied (ownGetPartnerPages port s).1 tag _ (ownGetPartnerPages port s).2) = _
    rw [ownGetPartnerPages, withPort_of_portIs hp]
    rfl

/-! ### SET_ADMIN (R2, R3) -/

/-- The condition word changes only with what it shows: outside UP, STALLED and TEST the link state is not seen. -/
theorem State.change_of_word {s : State} {p : PortId} {f : Port → Port} (h : (f (s.port p)).word = (s.port p).word) :
    s.change p f [] = s.setPort p (f (s.port p)) := by
  simp only [State.change, State.flagEvents, List.foldl_nil, State.offerWord, State.modPort_port_self, h, or_true,
    if_true]
  rfl

/-- What is done apart is done with no command waiting. -/
theorem State.apart_congr {s : State} {f g : State → State} (h : f (s.setPending []) = g (s.setPending [])) :
    s.apart f = s.apart g := congrArg (State.setPending · s.pending) h

/-- A move apart that shows nothing in the condition word writes the record and nothing else. -/
theorem State.apart_becomes_of_word {s : State} (hd : s.passDue = false) {p : PortId} {q : Port}
    (h : q.word = (s.port p).word) : (s.apart fun s => s.becomes p q []) = s.setPort p q := by
  have hc : (s.setPending []).change p (fun _ => q) [] = (s.setPending []).setPort p q := State.change_of_word h
  have hb : (s.setPending []).becomes p q [] = (s.setPending []).setPort p q := by
    rw [State.becomes, hc, State.settle, if_neg (by simp [hd])]
  rw [State.apart, hb]
  rfl

theorem State.setAdmin_enable (s : State) (p : PortId) :
    s.setAdmin p true = s.apart fun s => s.becomes p ((s.port p).enable p (s.profile p)) [] := rfl

theorem State.setAdmin_disable (s : State) (p : PortId) :
    s.setAdmin p false = s.apart fun s => s.becomes p (s.port p).disable.port (s.port p).disable.events := rfl

theorem Port.word_listening {q : Port} (hs : q.state = .disabled) (p : PortId) (r : Profile) :
    (q.listening p r).word = q.word := by
  unfold Port.listening
  split
  · split <;> simp [Port.word, Port.offering, Port.bareIn, hs]
  · simp [Port.word, Port.bareIn, hs]

theorem boolOfCode_eq_none : ∀ {n : Nat}, 2 ≤ n → boolOfCode n = none
  | _ + 2, _ => rfl

/-- DISABLE where the link state stays (R3). -/
theorem Port.disable_of_stays {q : Port} (h : q.state = .disabled ∨ q.state = .test) :
    q.disable = quiet { q with enabled := false } := by
  rcases h with e | e <;> simp only [Port.disable, e]

/-- DISABLE where no link goes down (R3). -/
theorem Port.disable_of_linkless {q : Port} {x : LinkState} (hx : q.state = x) (hd : x ≠ .disabled := by decide)
    (ht : x ≠ .test := by decide) (hu : x ≠ .up := by decide) :
    q.disable = quiet { q.bareIn .disabled with enabled := false } := by
  subst hx
  unfold Port.disable
  split
  case h_1 e => exact absurd e hd
  case h_2 e => exact absurd e ht
  case h_3 e => exact absurd e hu
  all_goals rfl

/-- DISABLE in UP makes a LINK_DOWN with cause ADMIN (R3, R44). -/
theorem Port.disable_of_up {q : Port} (h : q.state = .up) :
    q.disable =
      { port := { (q.dropped .admin).bareIn .disabled with enabled := false }, events := [.linkDown .admin] } := by
  simp only [Port.disable, h]
  rfl

/-- A port that leaves LISTEN, an exchange, TRAIN or HOLDOFF for DISABLED shows the same condition word. -/
theorem Port.word_bareIn_disabled {q : Port} {x : LinkState} (hx : q.state = x) (hu : x ≠ .up := by decide)
    (hs : x ≠ .stalled := by decide) (ht : x ≠ .test := by decide) :
    Port.word { q.bareIn .disabled with enabled := false } = q.word := by
  simp [Port.word, Port.bareIn, hx, hu, hs, ht]

/-- Settles O11: SET_ADMIN at its port, where only a port STALLED or UP shows a new word to its watch. -/
theorem setAdminByLinkState : Obligations.SetAdminByLinkState := by
  intro s tag port p hl hd hp
  have hexec {a : Byte} {b : Bool} (hb : boolOfCode a.toNat = some b) {t : State} (ht : s.setAdmin p b = t) :
      exec (.setAdmin tag port a) s =
        .next (t.replied tag 0x85#8 (taken [byteOf (t.port p).state.code, byteOfBool (t.port p).enabled])) := by
    rw [exec_request_of_lineFree hl rfl rfl]
    show Host.Outcome.next (State.replied (ownSetAdmin port a s).1 tag _ (ownSetAdmin port a s).2) = _
    rw [ownSetAdmin, withPort_of_portIs hp, hb, ← ht]
    rfl
  refine ⟨fun t ht => hexec (b := true) rfl ?_, fun t ht => hexec (b := false) rfl ?_, fun a ha => ?_⟩
  · rw [ht]
    have hen : (s.port p).enable p (s.profile p) =
        if (s.port p).state = .disabled then Port.listening p (s.profile p) { s.port p with enabled := true }
        else { s.port p with enabled := true } := by
      rw [Port.enable, Port.enterListen_eq]
    have hw : ((s.port p).enable p (s.profile p)).word = (s.port p).word := by
      rw [hen]
      split
      · next hs => exact Port.word_listening (q := { s.port p with enabled := true }) hs p _
      · rfl
    rw [← hen, ← State.apart_becomes_of_word hd hw, State.setAdmin_enable]
    exact State.apart_congr rfl
  · have hdis {m : Moved} (hm : (s.port p).disable = m) :
        s.setAdmin p false = s.apart fun s => s.becomes p m.port m.events := by
      rw [State.setAdmin_disable, ← hm]
      exact State.apart_congr rfl
    have hquiet {q : Port} (hq : (s.port p).disable = quiet q) (hw : q.word = (s.port p).word) :
        s.setAdmin p false = s.setPort p q := (hdis hq).trans (State.apart_becomes_of_word hd hw)
    rw [ht]
    split
    case h_1 hs => exact hquiet (Port.disable_of_stays (.inl hs)) rfl
    case h_2 hs => exact hquiet (Port.disable_of_stays (.inr hs)) rfl
    case h_8 hs => exact (hdis (Port.disable_of_linkless hs)).trans (State.apart_congr rfl)
    case h_9 hs => exact (hdis (Port.disable_of_up hs)).trans (State.apart_congr rfl)
    all_goals
      next hs => exact hquiet (Port.disable_of_linkless hs) (Port.word_bareIn_disabled hs)
  · have hb := boolOfCode_eq_none ha
    rw [exec_request_of_lineFree hl rfl rfl]
    show Host.Outcome.next (State.replied (ownSetAdmin port a s).1 tag _ (ownSetAdmin port a s).2) = _
    rw [ownSetAdmin, withPort_of_portIs hp, hb]
    rfl

end Machine
end Sys2Proof
end

section
/-! SUPPORT. What the part shows: read requests, trace-current, transmitters, bank switches, pulses and MTX. -/

namespace Sys2Proof.Machine

/-! ### Read requests (R77, R140, R187, R191) -/

/-- GET_QUEUE's first position, clamped to 1 to 48 (R77). -/
theorem clampTo_first (n : Nat) : clampTo 1 48 n = if n = 0 then 1 else min n 48 := by
  unfold clampTo
  by_cases h0 : n = 0
  · simp [h0]
  · rw [if_neg h0, if_neg (by omega)]
    split <;> omega

/-- GET_QUEUE changes nothing, and is CLAMPED where the first position was (R77). -/
theorem ownGetQueue_eq (first : Byte) (s : State) :
    ownGetQueue first s =
      (s, takenClamped (!decide (1 ≤ first.toNat ∧ first.toNat ≤ 48))
        (s.queueBody (if first.toNat = 0 then 1 else min first.toNat 48))) := by
  have hc : (clampTo 1 48 first.toNat != first.toNat) = !decide (1 ≤ first.toNat ∧ first.toNat ≤ 48) := by
    rw [Bool.eq_iff_iff, bne_iff_ne, clampTo_first]
    simp only [Bool.not_eq_true', decide_eq_false_iff_not]
    split <;> omega
  rw [ownGetQueue, hc, clampTo_first]

/-- A trace is current while the slot of the result holds it (R140). -/
theorem traceCurrent_iff (s : State) (r : ResultRecord) :
    s.traceCurrent r = true ↔
      r.disposition = .held ∧
        ∃ t h c, r.slot = some t ∧ s.slot t = .held h c ∧ h.number = r.number ∧ h.port = r.port := by
  unfold State.traceCurrent
  split
  · next t hd ht =>
    split
    · next h c hs => simp [hd, ht, hs]
    · next hs => simp [ht, hs]
    · next hs => simp [ht, hs]
  · next hn =>
    constructor
    · simp
    · rintro ⟨hd, t, -, -, ht, -⟩
      exact absurd ht (hn t hd)

/-! ### The outputs (R1, R83, R107, R108, R176, R189) -/

/-- A bank switch joins a port exactly while an engine that serves it is between CONNECT and RELEASE (R83). -/
theorem bankSwitch_eq_some_iff (s : State) (b : BankId) (p : PortId) :
    s.bankSwitch b = some p ↔
      s.resetLow = false ∧ ∃ u, s.bank b = some u ∧ u.port = p ∧
        ((s.engine u.engine).state = .connect ∨ (s.engine u.engine).state = .listen ∨
          (s.engine u.engine).state = .pulse ∨ (s.engine u.engine).state = .analyse) := by
  unfold State.bankSwitch
  split
  · next hl => simp [hl]
  · next hl hb => simp [hb]
  · next u hl hb => split <;> simp [*]

/-- An engine launches exactly in PULSE, on its current pair, with the width of its run reach (R107, R108). -/
theorem launching_eq_some_iff (s : State) (e : EngineId) (l : Launch) :
    s.launching e = some l ↔
      s.resetLow = false ∧ (s.engine e).state = .pulse ∧ ∃ j m, (s.engine e).job = some j ∧ (s.engine e).meas = some m ∧
        l = { port := j.port, pair := m.pair, ns := pulseNs (runReach j.reach m.run) } := by
  unfold State.launching
  split
  · next j m hl hs hj hm => simp [hl, hs, hj, hm, eq_comm]
  · next hn =>
    constructor
    · simp
    · rintro ⟨hl, hs, j, m, hj, hm, -⟩
      exact absurd hm (hn j m hl hs hj)

/-- A pair of a port is driven by the engine whose switch joins the port, and by no other (R83, R108). -/
theorem driven_eq_some_iff (s : State) (p : PortId) (x : Pair) (ns : Nat) :
    s.driven p x = some ns ↔
      s.resetLow = false ∧ ∃ (u : BankUse) (j : Job) (m : Meas), s.bank (bankOf p) = some u ∧ u.port = p ∧
        (s.engine u.engine).state = .pulse ∧ (s.engine u.engine).job = some j ∧ (s.engine u.engine).meas = some m ∧
        m.pair = x ∧ ns = pulseNs (runReach j.reach m.run) := by
  constructor
  · intro h
    unfold State.driven at h
    split at h
    · next p' u hsw hb =>
      split at h
      · next l hl =>
        obtain ⟨hlow, hpulse, j, m, hj, hm, rfl⟩ := (launching_eq_some_iff _ _ _).mp hl
        obtain ⟨-, v, hv, hp, -⟩ := (bankSwitch_eq_some_iff _ _ _).mp hsw
        obtain rfl : u = v := Option.some.inj (hb.symm.trans hv)
        split at h
        · next hx =>
          exact ⟨hlow, u, j, m, hb, hp.trans hx.1, hpulse, hj, hm, hx.2, (Option.some.inj h).symm⟩
        · simp at h
      · simp at h
    · simp at h
  · rintro ⟨hlow, u, j, m, hb, hp, hs, hj, hm, rfl, rfl⟩
    have hsw := (bankSwitch_eq_some_iff s (bankOf p) p).mpr ⟨hlow, u, hb, hp, .inr (.inr (.inl hs))⟩
    have hl := (launching_eq_some_iff s u.engine _).mpr ⟨hlow, hs, j, m, hj, hm, rfl⟩
    simp [State.driven, hsw, hb, hl]

/-- Settles O7: the read requests at their owners, and each output by its own rule. -/
theorem readRequestsShowTheState : Obligations.ReadRequestsShowTheState := by
  refine ⟨fun s tag hl => ⟨?_, ?_, fun first => ?_, fun port p hp => ?_⟩, traceCurrent_iff, ?_,
    bankSwitch_eq_some_iff, ?_, ?_⟩
  · exact exec_request_of_lineFree hl (r := .identify) rfl rfl
  · exact exec_request_of_lineFree hl (r := .getSummary) rfl rfl
  · rw [exec_request_of_lineFree hl (r := .getQueue first) rfl rfl, own, ownGetQueue_eq]
    by_cases h : 1 ≤ first.toNat ∧ first.toNat ≤ 48
    · rw [decide_eq_true h, if_pos h]
      rfl
    · rw [decide_eq_false h, if_neg h]
      rfl
  · rw [exec_request_of_lineFree hl (r := .getResult port) rfl rfl, own, ownGetResult, withPort_of_portIs hp]
    cases s.result p <;> rfl
  · rintro s p q rfl
    unfold State.output
    split
    · rfl
    · unfold Port.output Port.pageWord
      cases (s.port p).state with
      | extend => rcases (s.port p).sending with _ | ⟨_ | g, m, x⟩ <;> rfl
      | _ => rfl
  · intro s p x ns
    rw [driven_eq_some_iff]
    refine and_congr_right fun _ => exists_congr fun u => exists_congr fun j => exists_congr fun m =>
      and_congr_right fun _ => and_congr_right fun _ => and_congr_right fun _ => and_congr_right fun _ =>
      and_congr_right fun _ => and_congr_right fun _ => ?_
    cases j.reach <;> cases m.run <;> rfl
  · intro s
    unfold State.mtx
    cases s.resetLow with
    | true => rfl
    | false => cases s.sender <;> rfl

end Sys2Proof.Machine
end

section
/-! SUPPORT. Cold starts, the warm restart, and the invariants of the part right after reset. -/

namespace Sys2Proof.Machine

/-! ### Cold starts (R24, R164, R175, R188, R189) -/

/-- The ports of a cold start, one by one. -/
theorem coldStart_ports (s : State) :
    s.ports.map (fun q => coldPort q.draws) = Vector.ofFn (fun p : PortId => coldPort (s.port p).draws) := by
  ext i hi : 1
  simp [State.port]

/-- Settles O51: the four starts are `State.coldStart`, written out. -/
theorem coldStarts : Obligations.ColdStarts := by
  intro s cold hc
  have hcold (c : RestartCause) : s.coldStart c = cold c := by
    rw [State.coldStart, coldStart_ports, hc]
    rfl
  refine ⟨?_, ?_, fun x hx => ?_, ?_, by decide⟩
  · rw [← hcold]
    rfl
  · rw [← hcold]
    rfl
  · have hr : s.replySent = s.coldStart .coldRequest := by simp only [State.replySent, hx, State.restart]
    rw [← hcold, ← hr]
    rfl
  · rw [← hcold]
    rfl

/-! ### The warm restart (R25, R49, R59, R62, R71, R81, R101, R150, R165, R188, R189) -/

theorem restartModeOfCode_eq_none : ∀ {n : Nat}, 2 ≤ n → RestartMode.ofCode n = none
  | _ + 2, _ => rfl

/-- A watch compared from UNARMED is ARMED exactly on a match outside TEST (R51, R54). -/
theorem Port.rearm_eq (q : Port) :
    q.rearm =
      { q with watch := { q.watch with
          state := if q.state ≠ .test ∧ matchesWord q.watch.mask q.watch.expectation q.word = true then .armed
                   else .unarmed } } := by
  by_cases ht : q.state = .test
  · simp [rearm, setWatchState, suspended, ht]
  · cases hm : matchesWord q.watch.mask q.watch.expectation q.word <;>
    · have hw : Port.word { q with watch := { q.watch with state := .unarmed } } = q.word := rfl
      simp [rearm, setWatchState, suspended, ht, compare, hit, watchNext, hw, hm]

/-- A warm restart at one port record, `f` being the record its link state moves to (R25, R62). -/
theorem Port.warm_eq (r : Profile) (q : Port) (f : Port)
    (hf : f = (match q.state with
      | .listen | .offer | .extend | .train | .holdoff => q.holding r.holdoffMs
      | .stalled => { q with absence := !q.energy }
      | .test => { q with returnToStall := false }
      | .up | .disabled => q)) :
    q.warm r = { f with
      flags := 0,
      watch := { f.watch with
        state := if f.state ≠ .test ∧ matchesWord f.watch.mask f.watch.expectation f.word = true then .armed
                 else .unarmed } } := by
  have hw : q.warm r = { f.rearm with flags := 0 } := by
    subst hf
    unfold Port.warm
    cases q.state <;> rfl
  rw [hw, Port.rearm_eq]

/-- Settles O52: RESTART's answers, and a warm restart block by block. -/
theorem warmRestart : Obligations.WarmRestart := by
  intro s
  refine ⟨fun tag hl => ⟨?_, ?_, fun mode hm => ?_⟩, fun x a f hx ha hf => ?_⟩
  · exact exec_request_of_lineFree hl (r := .restart 0) rfl rfl
  · exact exec_request_of_lineFree hl (r := .restart 1) rfl rfl
  · rw [exec_request_of_lineFree hl (r := .restart mode) rfl rfl, own, ownRestart, restartModeOfCode_eq_none hm]
    rfl
  · have hports : Vector.ofFn (fun p => Port.warm (a.profile p) (a.port p)) = Vector.ofFn (fun p => { f p with
        flags := 0,
        watch := { (f p).watch with
          state := if (f p).state ≠ .test ∧ matchesWord (f p).watch.mask (f p).watch.expectation (f p).word = true
                   then .armed else .unarmed } }) :=
      congrArg Vector.ofFn (funext fun p => Port.warm_eq _ _ _ (hf p))
    have hengines : a.engines.map Engine.unclaimed = Vector.ofFn (fun e =>
        { a.engine e with job := (a.engine e).job.map (fun j => { j with slot := none }) }) := by
      ext i hi : 1
      simp [State.engine, Engine.unclaimed]
    have hrecheck : Vector.ofFn (fun p => warmRecheck (a.profile p) (a.recheckOf p)) = Vector.ofFn (fun p =>
        if a.recheckOf p = none ∨ (a.profile p).recheckS = 0 then none else some (a.profile p).recheckS) := by
      refine congrArg Vector.ofFn (funext fun p => ?_)
      cases a.recheckOf p <;> simp [warmRecheck, loadedRecheck]
    have hall : s.replySent = a.warmBlocks := by
      simp only [State.replySent, hx, State.restart, ha]
      rfl
    refine congrArg _ (hall.trans ?_)
    rw [State.warmBlocks, hports, hengines, hrecheck]
    rfl

/-! ### After reset -/

theorem reset_port (p : PortId) : State.reset.port p = coldPort 0 := by simp [State.port, State.reset]

theorem reset_bank (b : BankId) : State.reset.bank b = none := by simp [State.bank, State.reset]

theorem reset_engine (e : EngineId) : State.reset.engine e = coldEngine := by simp [State.engine, State.reset]

theorem reset_slot (t : SlotId) : State.reset.slot t = .free := by simp [State.slot, State.reset]

/-- After reset nothing is tested, connected or claimed. -/
theorem reset_testsSound : State.reset.testsSound := by
  refine ⟨fun e => ?_, fun b u h => ?_, fun p => ?_, ⟨nofun, fun e j hm => ?_⟩, ⟨fun t e n h => ?_, fun e j t hm => ?_⟩⟩
  · simp [State.engineSound, reset_engine, coldEngine]
  · simp [reset_bank] at h
  · simp [State.testSound, reset_port, reset_bank, coldPort]
  · simp [reset_engine, coldEngine, EngineState.measuring] at hm
  · simp [reset_slot] at h
  · simp [reset_engine, coldEngine, EngineState.measuring] at hm

/-- Settles O58: ports and profiles fit as after any cold start, and every list and table is empty. -/
theorem resetMeetsTheInvariants : Obligations.ResetMeetsTheInvariants := by
  have hfits : State.reset.Fits := (State.Fits.coldStart State.reset .powerOn).of_eq
    (by simp [State.coldStart, State.reset, coldPort]) rfl
  obtain ⟨hprof, hsets, hports⟩ := State.reset.fits_iff.mp hfits
  refine ⟨⟨Nat.zero_le _, nofun, fun _ => ⟨rfl, rfl⟩, nofun, trivial⟩, hprof, hsets, hports,
    ⟨List.nodup_nil, List.nodup_nil, nofun, le_refl _, by decide⟩, nofun, ⟨by decide, fun x hx => ?_⟩, fun x n hx => ?_,
    nofun, reset_testsSound, rfl, nofun⟩
  · obtain rfl := List.mem_singleton.mp hx
    exact .inl rfl
  · simp [State.reset, restartedEntry] at hx

end Sys2Proof.Machine
end

section
/-! SUPPORT. The account a port keeps of its link: who makes a live link, who ends one, and what every operation of the
part leaves of link_ups, link_drops, the last cause and the flags (R28, R43, R44, R46, R55). -/

namespace Sys2Proof.Machine

/-! ### Flags (R55) -/

theorem hasKind_addKind_self (x : KindSet) (k : EventKind) : hasKind (addKind x k) k = true := by
  cases k <;> simp [hasKind, addKind, EventKind.idx]

theorem hasKind_addKind_of_hasKind {x : KindSet} {k : EventKind} (h : hasKind x k = true) (j : EventKind) :
    hasKind (addKind x j) k = true := by
  simp only [hasKind, addKind, BitVec.getLsbD_or, Bool.or_eq_true] at h ⊢
  exact .inl h

namespace Port

/-- What flagging events and comparing the watch can do to a port record: flags are set, the watch moves. -/
structure Noted (q q' : Port) : Prop where
  bare : q'.bare = q.bare
  flags : ∀ k, hasKind q.flags k = true → hasKind q'.flags k = true

namespace Noted

variable {q q' q'' : Port}

theorem refl (q : Port) : Noted q q := ⟨rfl, fun _ => id⟩

theorem trans (h : Noted q q') (k : Noted q' q'') : Noted q q'' :=
  ⟨k.bare.trans h.bare, fun x hx => k.flags x (h.flags x hx)⟩

theorem setFlag (q : Port) (k : EventKind) : Noted q (q.setFlag k) :=
  ⟨rfl, fun _ hx => hasKind_addKind_of_hasKind hx k⟩

theorem state (h : Noted q q') : q'.state = q.state := (congrArg Port.state h.bare :)
theorem counters (h : Noted q q') : q'.counters = q.counters := (congrArg Port.counters h.bare :)
theorem lastDown (h : Noted q q') : q'.lastDown = q.lastDown := (congrArg Port.lastDown h.bare :)

end Noted

/-! ### The account of one port -/

/-- What a port's moves say about its link in its own record: flags, link_ups, link_drops and the last cause. -/
def account (q : Port) : KindSet × Nat × Nat × Option DownCause :=
  (q.flags, q.counters.linkUps, q.counters.linkDrops, q.lastDown)

/-- The link stays as it is, up or not, and so do link_drops and the last cause. -/
structure SameLink (q q' : Port) : Prop where
  up : q'.state = .up ↔ q.state = .up
  drops : q'.counters.linkDrops = q.counters.linkDrops
  lastDown : q'.lastDown = q.lastDown

/-- A live link ends: counted, with a cause, and flagged (R44, R55). -/
structure LinkLost (q q' : Port) : Prop where
  up : q.state = .up
  down : q'.state ≠ .up
  drops : q'.counters.linkDrops = bump 65535 q.counters.linkDrops
  lastDown : q'.lastDown ≠ none
  flag : hasKind q'.flags .linkDown = true

/-- No link comes up, and one that ends is accounted for once. -/
structure LinkKept (q q' : Port) : Prop where
  ups : q'.counters.linkUps = q.counters.linkUps
  flags : ∀ k, hasKind q.flags k = true → hasKind q'.flags k = true
  link : SameLink q q' ∨ LinkLost q q'

namespace LinkKept

variable {q q' q'' : Port}

theorem refl (q : Port) : LinkKept q q := ⟨rfl, fun _ => id, .inl ⟨.rfl, rfl, rfl⟩⟩

/-- A link is lost at most once: what is down stays down. -/
theorem trans (h : LinkKept q q') (k : LinkKept q' q'') : LinkKept q q'' := by
  refine ⟨k.ups.trans h.ups, fun x hx => k.flags x (h.flags x hx), ?_⟩
  rcases h.link with hs | hl <;> rcases k.link with ks | kl
  · exact .inl ⟨ks.up.trans hs.up, ks.drops.trans hs.drops, ks.lastDown.trans hs.lastDown⟩
  · exact .inr ⟨hs.up.mp kl.up, kl.down, hs.drops ▸ kl.drops, kl.lastDown, kl.flag⟩
  · exact .inr ⟨hl.up, fun e => hl.down (ks.up.mp e), ks.drops.trans hl.drops, ks.lastDown ▸ hl.lastDown,
      k.flags _ hl.flag⟩
  · exact absurd kl.up hl.down

theorem of_noted (h : Noted q q') : LinkKept q q' :=
  ⟨by rw [h.counters], h.flags, .inl ⟨by rw [h.state], by rw [h.counters], h.lastDown⟩⟩

end LinkKept

end Port

/-- A move that makes no link, and ends one only with a LINK_DOWN of its cause. -/
def Moved.Counted (q : Port) (m : Moved) : Prop :=
  (m.port.account = q.account ∧ (m.port.state = .up ↔ q.state = .up)) ∨
    (q.state = .up ∧ m.port.state ≠ .up ∧ ∃ c, m.port.account = (q.recordDown c).account ∧ .linkDown c ∈ m.events)

namespace State

/-! ### Flagged events and changes (R45, R51, R58) -/

theorem submit_noted (s : State) (p : PortId) (k : Option EventKind) : (s.port p).Noted ((s.submit p k).port p) := by
  rcases submit_port_self s p k with h | h <;> rw [h]
  · exact .refl _
  · exact .setFlag _ _

/-- A flagged event sets its flag and no more of its port's record but flags (R55, R58). -/
theorem flagEvent_noted (s : State) (p : PortId) (ev : FlagEvent) :
    ((s.port p).setFlag ev.kind).Noted ((s.flagEvent p ev).port p) := by
  rw [← flagAndReport_port_self]
  unfold flagEvent
  dsimp only
  split
  · exact submit_noted _ p _
  · exact .refl _

theorem flagEvents_noted (s : State) (p : PortId) (evs : List FlagEvent) :
    (s.port p).Noted ((s.flagEvents p evs).port p) := by
  induction evs generalizing s with
  | nil => exact .refl _
  | cons ev rest ih => exact ((Port.Noted.setFlag _ _).trans (flagEvent_noted s p ev)).trans (ih _)

/-- Every event of a change is flagged (R55). -/
theorem flagEvents_flag (s : State) (p : PortId) {evs : List FlagEvent} {ev : FlagEvent} (h : ev ∈ evs) :
    hasKind ((s.flagEvents p evs).port p).flags ev.kind = true := by
  induction evs generalizing s with
  | nil => nomatch h
  | cons x rest ih =>
    rcases List.mem_cons.mp h with rfl | h
    · have hself := (flagEvent_noted s p ev).flags ev.kind (hasKind_addKind_self _ _)
      exact (flagEvents_noted (s.flagEvent p ev) p rest).flags _ hself
    · exact ih (s.flagEvent p x) h

theorem offerWord_noted (s : State) (p : PortId) (old : CondWord) : (s.port p).Noted ((s.offerWord p old).port p) := by
  have hc : (s.port p).Noted ((s.setPort p (s.port p).compare).port p) := by
    rw [setPort_port_self]
    exact ⟨rfl, fun _ => id⟩
  unfold offerWord
  dsimp only
  split
  · exact .refl _
  · split
    · exact (hc.trans (.setFlag _ _)).trans (flagEvent_noted _ p .departure)
    · exact hc

/-- A change of a port with its events: the record of the move, noted (R45, R58). -/
theorem change_noted (s : State) (p : PortId) (f : Port → Port) (evs : List FlagEvent) :
    (f (s.port p)).Noted ((s.change p f evs).port p) := by
  have h := (flagEvents_noted (s.modPort p f) p evs).trans (offerWord_noted _ p (s.port p).word)
  rwa [modPort_port_self] at h

theorem change_flag (s : State) (p : PortId) (f : Port → Port) {evs : List FlagEvent} {ev : FlagEvent} (h : ev ∈ evs) :
    hasKind ((s.change p f evs).port p).flags ev.kind = true :=
  (offerWord_noted _ p _).flags _ (flagEvents_flag _ p h)

end State

/-- A counted move whose events are flagged keeps the account. -/
theorem Moved.Counted.linkKept {q q' : Port} {m : Moved} (h : m.Counted q)
    (hn : m.port.Noted q') (hf : ∀ ev ∈ m.events, hasKind q'.flags ev.kind = true) : q.LinkKept q' := by
  have hc := hn.counters
  have hl := hn.lastDown
  rcases h with ⟨ha, hu⟩ | ⟨hq, hd, c, ha, hm⟩ <;>
    simp only [Port.account, Prod.mk.injEq] at ha <;> obtain ⟨h1, h2, h3, h4⟩ := ha
  · exact ⟨by rw [hc, h2], fun k hk => hn.flags k (h1 ▸ hk), .inl ⟨by rw [hn.state, hu], by rw [hc, h3], hl.trans h4⟩⟩
  · exact ⟨by rw [hc, h2]; rfl, fun k hk => hn.flags k (h1 ▸ hk),
      .inr ⟨hq, hn.state ▸ hd, by rw [hc, h3]; rfl, by rw [hl, h4]; nofun, hf _ hm⟩⟩

end Sys2Proof.Machine
end

section
/-! SUPPORT. Every move of one port is counted: only the convergence of a training makes a link (R28), and what leaves
UP records a LINK_DOWN (R44). -/

namespace Sys2Proof.Machine

/-- A record off any link that keeps an account. -/
def Port.OffLink (a : KindSet × Nat × Nat × Option DownCause) (q : Port) : Prop := q.account = a ∧ q.state ≠ .up

namespace Port.OffLink

variable {a : KindSet × Nat × Nat × Option DownCause} {q : Port}

/-! ### Entries (R3, R5, R6, R8, R13, R26, R33, R35) -/

theorem enterDisabled (h : q.account = a) : OffLink a q.enterDisabled := ⟨h, nofun⟩
theorem enterHoldoff (h : q.account = a) (r : Profile) : OffLink a (q.enterHoldoff r) := ⟨h, nofun⟩
theorem enterStalled (h : q.account = a) (c : StallCause) : OffLink a (q.enterStalled c) := ⟨h, nofun⟩
theorem returnStalled (h : q.account = a) : OffLink a q.returnStalled := ⟨h, nofun⟩
theorem enterTrain (h : q.account = a) (c : Speed) (x : Role) : OffLink a (q.enterTrain c x) := ⟨h, nofun⟩
theorem enterOffer (h : q.account = a) (p : PortId) (r : Profile) : OffLink a (q.enterOffer p r) := ⟨h, nofun⟩
theorem enterTest (h : q.account = a) : OffLink a q.enterTest := ⟨h, nofun⟩

theorem enterExtend (h : q.account = a) : OffLink a q.enterExtend := by
  rw [enterExtend_eq]
  exact ⟨h, nofun⟩

theorem goFromListen (h : q.account = a) (p : PortId) (r : Profile) : OffLink a (q.goFromListen p r) := by
  unfold Port.goFromListen
  split
  · exact enterOffer h p r
  · exact enterTrain (q := { q with partnerOffer := none }) h _ _

theorem enterListen (h : q.account = a) (p : PortId) (r : Profile) : OffLink a (q.enterListen p r) := by
  unfold Port.enterListen
  split
  · exact goFromListen (q := { q.leave with state := .listen, tie := 0 }) h p r
  · exact ⟨h, nofun⟩

/-! ### The exchange (R9, R10, R14 to R17, R19 to R21) -/

theorem resolve (h : q.account = a) (p : PortId) (r : Profile) : OffLink a (q.resolve p r).port := by
  unfold Port.resolve
  split
  · split
    · exact enterStalled h _
    · split
      · exact enterTrain (q := { q with tie := 0 }) h _ _
      · exact enterStalled h _
      · unfold Port.tied
        dsimp only
        split
        · exact enterStalled (q := { q with tie := q.tie + 1 }) h _
        · exact enterOffer (q := { q with tie := q.tie + 1 }) h p r
  · exact enterStalled h _

theorem afterAck (h : OffLink a q) (w : PageWord) : OffLink a (q.afterAck w) := by
  unfold Port.afterAck
  split
  · exact h
  · split
    · split <;> exact h
    · exact h

theorem acceptPage (h : OffLink a q) (p : PortId) (r : Profile) (w : PageWord) :
    OffLink a (q.acceptPage p r w).port := by
  have hp : OffLink a ((q.takeAck w).takePage w) := by
    rw [takePage_eq, takeAck_eq]
    exact h.afterAck w
  unfold Port.acceptPage
  dsimp only
  split
  · exact resolve hp.1 p r
  · exact hp

theorem completeOffer (h : q.account = a) (p : PortId) (r : Profile) : OffLink a (q.completeOffer p r).port := by
  unfold Port.completeOffer
  split
  · exact enterExtend h
  · exact resolve h p r

theorem accept (h : OffLink a q) (p : PortId) (r : Profile) (w : PartnerWord) : OffLink a (q.accept p r w).port := by
  unfold Port.accept
  split
  · unfold Port.acceptOffer
    dsimp only
    split
    · refine completeOffer ?_ p r
      exact h.1
    · exact h
  · unfold Port.pageInOffer
    split
    · exact h
    · split
      · exact (enterExtend h.1).acceptPage p r _
      · exact resolve h.1 p r
  · exact enterOffer h.1 p r
  · exact h.acceptPage p r _
  · exact h

theorem hear (h : OffLink a q) (p : PortId) (r : Profile) (w : PartnerWord) : OffLink a (q.hear p r w).port := by
  have hc (x : PartnerWord × Nat) : OffLink a { q with candidate := some x } := h
  unfold Port.hear
  split
  · split
    · split
      · split
        · split
          · exact (hc _).accept p r w
          · exact h
        · exact h
      · exact h
    · exact h
  · exact h

/-! ### Training (R27, R31) -/

theorem trainingFailure (h : q.account = a) (r : Profile) (c : Speed) : OffLink a (q.trainingFailure r c).port := by
  unfold Port.trainingFailure
  dsimp only
  split
  · split
    · exact enterStalled (q := q.countFailure c) h _
    · exact ⟨h, nofun⟩
  · exact enterHoldoff (q := q.countFailure c) h r

end Port.OffLink

/-! ### The moves -/

namespace Moved.Counted

variable {q : Port}

theorem quiet (q : Port) : (quiet q).Counted q := .inl ⟨rfl, .rfl⟩

/-- A move of a port with no link that makes none. -/
theorem of_offLink {m : Moved} (hq : q.state ≠ .up) (hm : m.port.OffLink q.account) : m.Counted q :=
  .inl ⟨hm.1, fun h => absurd h hm.2, fun h => absurd h hq⟩

/-- A move that leaves the link state, the flags and what is counted of links. -/
theorem of_same {m : Moved} (ha : m.port.account = q.account) (hs : m.port.state = q.state) : m.Counted q :=
  .inl ⟨ha, by rw [hs]⟩

/-- A LINK_DOWN: the record keeps what it records, in another link state (R44). -/
theorem of_down {m : Moved} (hq : q.state = .up) {c : DownCause} (hm : m.port.OffLink (q.recordDown c).account)
    (he : .linkDown c ∈ m.events) : m.Counted q := .inr ⟨hq, hm.2, c, hm.1, he⟩

theorem energyOn (p : PortId) (r : Profile) (q : Port) : (Machine.quiet (q.energyOn p r)).Counted q := by
  unfold Port.energyOn
  dsimp only
  split
  · next hs => exact of_offLink (by simp [hs]) (.goFromListen rfl p r)
  · exact of_same rfl rfl
  all_goals exact of_same rfl rfl

theorem energyOff (p : PortId) (r : Profile) (q : Port) : (Machine.quiet (q.energyOff p r)).Counted q := by
  have hl (hs : q.state ≠ .up) : (Machine.quiet (Port.enterListen p r { q with energy := false })).Counted q :=
    of_offLink hs (.enterListen rfl p r)
  unfold Port.energyOff
  dsimp only
  split
  case h_3 hs | h_4 hs | h_5 hs => exact hl (by simp [hs])
  all_goals exact of_same rfl rfl

theorem hear (p : PortId) (r : Profile) (w : PartnerWord) (q : Port) : (q.hear p r w).Counted q := by
  by_cases hu : q.state = .up
  · have : q.hear p r w = Machine.quiet q := by simp [Port.hear, hu]
    rw [this]
    exact .quiet q
  · exact of_offLink hu (Port.OffLink.hear ⟨rfl, hu⟩ p r w)

theorem failTraining (r : Profile) (q : Port) : (q.failTraining r).Counted q := by
  unfold Port.failTraining
  split
  · next hs _ => exact of_offLink (by simp [hs]) (.trainingFailure rfl r _)
  · exact .quiet q

theorem trainingExpired (r : Profile) (q : Port) : (q.trainingExpired r).Counted q := by
  unfold Port.trainingExpired
  split
  · exact failTraining r q
  · exact .quiet q

theorem loseSignal (r : Profile) (q : Port) : (q.loseSignal r).Counted q := by
  unfold Port.loseSignal
  split
  · next hu => exact of_down hu (.enterHoldoff rfl r) (.head _)
  · exact .quiet q

theorem marginDrop (hu : q.state = .up) (r : Profile) (c : Speed) : (q.marginDrop r c).Counted q :=
  of_down hu (.trainingFailure (q := q.recordDown .margin) rfl r c) (.head _)

theorem exchangeExpired (r : Profile) (q : Port) : (q.exchangeExpired r).Counted q := by
  unfold Port.exchangeExpired
  split
  · next hs => exact of_offLink (by rcases hs.2 with e | e <;> simp [e]) (.enterHoldoff rfl r)
  · exact .quiet q

theorem holdoffEnded (p : PortId) (r : Profile) (q : Port) : (Machine.quiet (q.holdoffEnded p r)).Counted q := by
  unfold Port.holdoffEnded
  split
  · next hs => exact of_offLink (by simp [hs.2]) (.enterListen rfl p r)
  · exact .quiet q

theorem absenceExpired (p : PortId) (r : Profile) (q : Port) : (Machine.quiet (q.absenceExpired p r)).Counted q := by
  unfold Port.absenceExpired
  split
  · split
    case h_2 hs => exact of_offLink (by simp [hs]) (.enterListen (q := q.clearMemory) rfl p r)
    all_goals exact of_same rfl rfl
  · exact .quiet q

theorem enable (p : PortId) (r : Profile) (q : Port) : (Machine.quiet (q.enable p r)).Counted q := by
  unfold Port.enable
  split
  · next hs => exact of_offLink (by simp [hs]) (.enterListen rfl p r)
  · exact of_same rfl rfl

theorem disable (q : Port) : q.disable.Counted q := by
  unfold Port.disable
  split
  case h_1 | h_2 => exact of_same rfl rfl
  case h_3 hu => exact of_down hu (.enterDisabled rfl) (.head _)
  all_goals
    next hs => exact of_offLink (by simp [hs]) (.enterDisabled rfl)

theorem restarted (r : Profile) (q : Port) : (q.restarted r).Counted q := by
  unfold Port.restarted
  dsimp only
  split
  case h_1 | h_2 => exact of_same rfl rfl
  case h_3 hu => exact of_down hu (.enterHoldoff rfl r) (.head _)
  all_goals
    next hs => exact of_offLink (fun e => by simp [Port.clearMemory, e] at hs) (.enterHoldoff rfl r)

theorem afterWrite (old new : Profile) (q : Port) : (Machine.quiet (q.afterWrite old new)).Counted q := by
  have hc : (if setChanged old new then q.clearMemory else q).account = q.account ∧
      (if setChanged old new then q.clearMemory else q).state = q.state := by
    split <;> exact ⟨rfl, rfl⟩
  unfold Port.afterWrite
  dsimp only
  generalize (if setChanged old new then q.clearMemory else q) = x at hc
  obtain ⟨ha, hs⟩ := hc
  split
  · split
    case h_1 e => exact of_offLink (by simp [← hs, e]) (.enterHoldoff ha new)
    all_goals exact of_same ha hs
  · exact of_same ha hs

/-- The return from TEST of a port that is in TEST (R97). -/
theorem returnFromTest (r : Profile) (ht : q.state = .test) : (Machine.quiet (q.returnFromTest r)).Counted q := by
  refine of_offLink (by simp [ht]) ?_
  unfold Port.returnFromTest
  split
  · split
    · exact .returnStalled rfl
    · exact .enterHoldoff rfl r
  · exact .enterDisabled rfl

end Moved.Counted

end Sys2Proof.Machine
end

section
/-! SUPPORT. Every operation of the part keeps the account of every link, and what each command does to links (R28, R43,
R44, R46, R55). -/

namespace Sys2Proof.Machine

/-! ### What only notes: submissions and the ends of tests -/

/-- No port record moves but for its flags and its watch. -/
def State.PortsNoted (s t : State) : Prop := ∀ p, (s.port p).Noted (t.port p)

namespace State.PortsNoted

variable {s t : State}

theorem refl (s : State) : s.PortsNoted s := fun _ => .refl _

/-- What touches no port notes nothing. -/
theorem of_eq {u : State} (h : s.PortsNoted t) (hp : u.ports = t.ports) : s.PortsNoted u := by
  intro p
  simpa only [State.port, hp] using h p

theorem completeRecord (h : s.PortsNoted t) (r : TestRecord) (x : TestOutcome) (q : Quad PairRecord) :
    s.PortsNoted (t.completeRecord r x q) := by
  intro p
  by_cases e : p = r.port
  · subst e
    rw [State.completeRecord_port_self]
    exact (h r.port).trans (.setFlag _ _)
  · rw [State.completeRecord_port_ne t r x q e]
    exact h p

theorem endTest (h : s.PortsNoted t) (e : EngineId) (x : TestOutcome) (q : Quad PairRecord) :
    s.PortsNoted (t.endTest e x q) := by
  unfold State.endTest
  dsimp only
  split
  · exact h.of_eq rfl
  · next j _ =>
    split
    · exact h.of_eq (by simp)
    · next r _ =>
      have hw : s.PortsNoted
          ((t.setResult r.port (some (resultOf r j x q))).settleSlot j x q (t.engine e).buffer) := h.of_eq (by simp)
      exact (hw.completeRecord r x q).of_eq rfl

theorem abort (h : s.PortsNoted t) (e : EngineId) : s.PortsNoted (t.abort e) := by
  unfold State.abort
  split
  · exact h.endTest e _ _
  · exact h

theorem abortAll (h : s.PortsNoted t) : s.PortsNoted t.abortAll := (((h.abort 0).abort 1).abort 2).abort 3

theorem completeStranded (h : s.PortsNoted t) : s.PortsNoted t.completeStranded := by
  unfold State.completeStranded
  generalize t.queue.filter _ = l
  induction l generalizing t with
  | nil => exact h
  | cons r rest ih => exact ih (h.completeRecord r _ _)

theorem freeEngine (h : s.PortsNoted t) (e : EngineId) : s.PortsNoted (t.freeEngine e) := by
  unfold State.freeEngine
  split
  · exact completeStranded (h.of_eq rfl)
  · exact h.of_eq rfl

theorem finishPair (h : s.PortsNoted t) (e : EngineId) (x : PairRecord) : s.PortsNoted (t.finishPair e x) := by
  unfold State.finishPair
  dsimp only
  split
  · exact h.of_eq rfl
  · refine endTest ?_ e _ _
    exact h.of_eq rfl

/-! ### Engine events (chapter 6) -/

theorem busPass (h : s.PortsNoted t) (e : EngineId) : s.PortsNoted (t.busPass e) := by
  unfold State.busPass
  dsimp only
  split
  · exact h.of_eq rfl
  · exact h

theorem busFail (h : s.PortsNoted t) (e : EngineId) : s.PortsNoted (t.busFail e) := by
  unfold State.busFail
  split
  · exact h.endTest e _ _
  · exact h

theorem listenEnd (h : s.PortsNoted t) (e : EngineId) (c : Quad (List Sample)) : s.PortsNoted (t.listenEnd e c) := by
  unfold State.listenEnd
  dsimp only
  split
  · split
    · exact h
    · split
      · exact h.of_eq rfl
      · split
        · exact h.of_eq rfl
        · refine finishPair ?_ e _
          exact h.of_eq rfl
  · exact h

theorem listenWaitEnd (h : s.PortsNoted t) (e : EngineId) : s.PortsNoted (t.listenWaitEnd e) := by
  unfold State.listenWaitEnd
  dsimp only
  split
  · split
    · exact h.of_eq rfl
    · exact h
  · exact h

theorem launch (h : s.PortsNoted t) (e : EngineId) (c : Quad (List Sample)) : s.PortsNoted (t.launch e c) := by
  unfold State.launch
  dsimp only
  split
  · exact h.of_eq rfl
  · exact h

theorem analysisDone (h : s.PortsNoted t) (e : EngineId) : s.PortsNoted (t.analysisDone e) := by
  unfold State.analysisDone
  dsimp only
  split
  · split
    · exact h.of_eq rfl
    · refine finishPair ?_ e _
      exact h.of_eq rfl
  · exact h

end State.PortsNoted

/-! ### What keeps the account of every link -/

/-- At every port no link comes up, and one that ends is accounted for. -/
def State.LinksKept (s t : State) : Prop := ∀ p, (s.port p).LinkKept (t.port p)

namespace State.LinksKept

variable {s t : State}

theorem refl (s : State) : s.LinksKept s := fun _ => .refl _

/-! ### Writes -/

/-- What touches no port keeps every account. -/
theorem of_eq {u : State} (h : s.LinksKept t) (hp : u.ports = t.ports) : s.LinksKept u := by
  intro p
  simpa only [State.port, hp] using h p

/-- What touches one port keeps every account if it keeps that one's. -/
theorem of_port {u : State} (h : s.LinksKept t) (p : PortId) (hne : ∀ p' ≠ p, u.port p' = t.port p')
    (hp : (t.port p).LinkKept (u.port p)) : s.LinksKept u := by
  intro p'
  by_cases e : p' = p
  · subst e
    exact (h p').trans hp
  · rw [hne p' e]
    exact h p'

/-- What only notes keeps every account. -/
theorem noted {u : State} (h : s.LinksKept t) (hn : t.PortsNoted u) : s.LinksKept u :=
  fun p => (h p).trans (.of_noted (hn p))

/-! ### Flagged events and changes (R45, R51, R58) -/

theorem completeRecord (h : s.LinksKept t) (r : TestRecord) (x : TestOutcome) (q : Quad PairRecord) :
    s.LinksKept (t.completeRecord r x q) := h.noted (.completeRecord (.refl t) r x q)

theorem submit (h : s.LinksKept t) (p : PortId) (k : Option EventKind) : s.LinksKept (t.submit p k) :=
  h.of_port p (fun _ => State.submit_port_ne t p k) (.of_noted (State.submit_noted t p k))

/-- A counted change keeps the account. -/
theorem change (h : s.LinksKept t) {p : PortId} {f : Port → Port} {evs : List FlagEvent}
    (hm : Moved.Counted (t.port p) { port := f (t.port p), events := evs }) : s.LinksKept (t.change p f evs) :=
  h.of_port p (fun _ => State.change_port_ne t p f evs)
    (hm.linkKept (State.change_noted t p f evs) fun _ => State.change_flag t p f)

theorem move (h : s.LinksKept t) {p : PortId} {m : Moved} (hm : m.Counted (t.port p)) : s.LinksKept (t.move p m) :=
  h.change hm

/-! ### Grants and the ends of tests (chapter 5) -/

/-- A grant takes a port from UP only with a LINK_DOWN of cause TEST (R88). -/
theorem portToTest (h : s.LinksKept t) (p : PortId) : s.LinksKept (t.portToTest p) := by
  unfold State.portToTest
  split
  · next hu =>
    have hm : Moved.Counted (t.port p)
        { port := ((t.port p).recordDown .test).enterTest, events := [.linkDown .test] } :=
      .of_down hu (.enterTest rfl) (.head _)
    have hn := State.flagEvents_noted (t.modPort p fun q => (q.recordDown .test).enterTest) p [.linkDown .test]
    rw [State.modPort_port_self] at hn
    refine h.of_port p (fun p' hp => ?_) (hm.linkKept hn fun _ => State.flagEvents_flag _ p)
    exact (State.flagEvent_port_ne _ p _ hp).trans (State.modPort_port_ne t p _ p' hp)
  · next hu =>
    have hm : Moved.Counted (t.port p) (quiet (t.port p).enterTest) := .of_offLink hu (.enterTest rfl)
    refine h.of_port p (State.modPort_port_ne t p _) (hm.linkKept ?_ nofun)
    rw [State.modPort_port_self]
    exact .refl _

theorem grantEngine (h : s.LinksKept t) (r : TestRecord) (e : EngineId) : s.LinksKept (t.grantEngine r e) := by
  have hq : s.LinksKept ((t.setQueue (runRecord r.number e t.queue)).setBank (bankOf r.port)
      (some { port := r.port, engine := e })) := h.of_eq rfl
  exact (hq.portToTest r.port).of_eq (by simp [State.grantEngine])

theorem grant (h : s.LinksKept t) (r : TestRecord) (e : EngineId) : s.LinksKept (t.grant r e) := by
  unfold State.grant
  split
  · exact h.completeRecord r _ _
  · exact h.grantEngine r e

theorem grantPass (h : s.LinksKept t) : s.LinksKept t.grantPass :=
  State.passFuel_rec (P := s.LinksKept) (fun _ r e _ _ hs => hs.grant r e) _ _ h

theorem settle (h : s.LinksKept t) : s.LinksKept t.settle := by
  unfold State.settle
  split
  · exact grantPass (t := t.duePass false) (h.of_eq rfl)
  · exact h

/-- Release end takes the port of its connection out of TEST, where engines, banks and ports agree (R88, R96, R97). -/
theorem releaseEnd (hs : s.testsSound) {e : EngineId} (he : (s.engine e).state = .release) :
    s.LinksKept (s.releaseEnd e) := by
  obtain ⟨hengine, -, htest, -, -⟩ := hs
  have hconn := hengine e
  simp only [State.engineSound, he] at hconn
  obtain ⟨j, hj, hbank, -⟩ := hconn
  have ht : (s.port j.port).state = .test := (htest j.port).mpr ⟨_, hbank, rfl⟩
  have hp : s.LinksKept (s.freePort j.port) :=
    ((refl s).of_eq rfl : s.LinksKept (s.setBank (bankOf j.port) none)).change (.returnFromTest _ ht)
  simp only [State.releaseEnd, hj]
  exact grantPass ((hp.noted (.freeEngine (.refl _) e)).of_eq rfl)

/-! ### Arrivals and timers (chapters 1 to 4) -/

theorem arrive {f : State → State} (hf : s.LinksKept (f s)) : s.LinksKept (s.arrive f) := by
  unfold State.arrive
  split
  · exact refl s
  · exact hf.settle

theorem sampleChange (h : s.LinksKept t) (p : PortId) (x : Nat) : s.LinksKept (t.sampleChange p x) :=
  h.move (.of_same rfl rfl)

theorem marginSample (h : s.LinksKept t) (p : PortId) (x : Nat) : s.LinksKept (t.marginSample p x) := by
  unfold State.marginSample
  split
  · next hu =>
    have hs := h.sampleChange p x
    have hup : ((t.sampleChange p x).port p).state = .up := (State.change_noted t p _ _).state.trans hu
    unfold State.dropChange
    split
    · split
      · exact hs.move (.marginDrop hup _ _)
      · exact hs
    · exact hs
  · exact h

theorem recheckExpired (h : s.LinksKept t) (p : PortId) : s.LinksKept (t.recheckExpired p) := by
  unfold State.recheckExpired
  split
  · exact h
  · refine settle (of_eq (t := if (t.port p).state = .up then t else t.submit p none) ?_ rfl)
    split
    · exact h
    · exact h.submit p none

theorem agingExpired (h : s.LinksKept t) (n : Nat) : s.LinksKept (t.agingExpired n) := by
  unfold State.agingExpired
  split
  · split
    · exact grantPass (h.of_eq rfl)
    · exact h
  · exact h

/-! ### Requests (R185) -/

theorem apart (h : s.LinksKept t) {f : State → State}
    (hf : s.LinksKept (t.setPending []) → s.LinksKept (f (t.setPending []))) : s.LinksKept (t.apart f) :=
  (hf (h.of_eq rfl)).of_eq rfl

theorem setAdmin (h : s.LinksKept t) (p : PortId) (a : Bool) : s.LinksKept (t.setAdmin p a) := by
  refine h.apart fun h => ?_
  split
  · exact (h.change (.enable p _ _)).settle
  · exact (h.change (.disable _)).settle

theorem portRestart (h : s.LinksKept t) (p : PortId) : s.LinksKept (t.portRestart p) := by
  refine h.apart fun h => ?_
  have hc := h.move (p := p) (.restarted ((t.setPending []).profile p) _)
  refine settle ?_
  split
  · unfold State.abortPort
    split
    · exact hc.noted (.abort (.refl _) _)
    · exact hc
  · exact hc

theorem writeProfile (h : s.LinksKept t) (r : Profile) (p : PortId) : s.LinksKept (t.writeProfile r p) := by
  have hp : s.LinksKept (t.setProfile p r) := h.of_eq rfl
  have hc := hp.change (p := p) (f := Port.afterWrite (t.profile p) r) (.afterWrite (t.profile p) r _)
  unfold State.writeProfile
  dsimp only
  split
  · exact hc.of_eq rfl
  · exact hc

theorem writes (h : s.LinksKept t) (r : Profile) (ps : List PortId) :
    s.LinksKept (ps.foldl (fun s p => s.writeProfile r p) t) := by
  induction ps generalizing t with
  | nil => exact h
  | cons p rest ih => exact ih (h.writeProfile r p)

theorem setProfile (h : s.LinksKept t) (f l : Byte) (x : RawProfile) : s.LinksKept (ownSetProfile f l x t).1 := by
  unfold ownSetProfile
  split
  · split
    · exact h
    · split
      · exact h.apart fun h => (h.writes _ _).settle
      · exact h
  · exact h

theorem startTest (h : s.LinksKept t) (p : PortId) (x : Reach) (avg y : Nat) (c d : Bool) :
    s.LinksKept (t.startTest p x avg y c d).1 := by
  unfold State.startTest
  split
  · exact h
  · split
    · exact h
    · split
      · refine settle ?_
        exact h.of_eq rfl
      · exact h

theorem cancelFound (h : s.LinksKept t) (r : Option TestRecord) : s.LinksKept (t.cancelFound r).1 := by
  cases r with
  | none => exact h
  | some r =>
    show s.LinksKept (t.cancel r)
    unfold State.cancel
    split
    · exact h.completeRecord r _ _
    · exact h.noted (.abort (.refl t) _)

theorem restoreEngine (h : s.LinksKept t) (e : EngineId) : s.LinksKept (t.restoreEngine e) := by
  unfold State.restoreEngine
  split
  · refine grantPass ?_
    exact h.of_eq rfl
  · exact h

end State.LinksKept

/-! ### What a command does to links -/

/-- What a command that makes no link does to the link of a port: one that ends is counted, with a cause, and flagged. A
link that stays may have its counters and flags cleared. -/
structure Port.LinkCounted (q q' : Port) : Prop where
  down : q.state ≠ .up → q'.state ≠ .up
  lost : q.state = .up → q'.state ≠ .up → q.LinkLost q'

theorem Port.LinkKept.counted {q q' : Port} (h : q.LinkKept q') : q.LinkCounted q' := by
  rcases h.link with hs | hl
  · exact ⟨fun hd hu => hd (hs.up.mp hu), fun hu hd => absurd (hs.up.mpr hu) hd⟩
  · exact ⟨fun hd => absurd hl.up hd, fun _ _ => hl⟩

/-- What leaves a link up or down as it is ends none. -/
theorem Port.LinkCounted.of_up {q q' : Port} (h : q'.state = .up ↔ q.state = .up) : q.LinkCounted q' :=
  ⟨fun hd hu => hd (h.mp hu), fun hu hd => absurd (h.mpr hu) hd⟩

/-- At every port no link comes up, and one that ends is counted. -/
def State.LinksCounted (s t : State) : Prop := ∀ p, (s.port p).LinkCounted (t.port p)

namespace State.LinksCounted

variable {s : State}

theorem of_kept {t : State} (h : s.LinksKept t) : s.LinksCounted t := fun p => (h p).counted

theorem refl (s : State) : s.LinksCounted s := .of_kept (.refl s)

/-- What precedes and touches no port is not seen. -/
theorem of_before {t u : State} (h : u.LinksCounted t) (hp : u.ports = s.ports) : s.LinksCounted t := by
  intro p
  simpa only [State.port, hp] using h p

/-- A write of one port's record that leaves its link state. -/
theorem modPort (s : State) (p : PortId) {f : Port → Port} (hf : ∀ q, (f q).state = q.state) :
    s.LinksCounted (s.modPort p f) := by
  intro p'
  by_cases e : p' = p
  · subst e
    rw [State.modPort_port_self]
    exact .of_up (by rw [hf])
  · rw [State.modPort_port_ne s p f p' e]
    exact .of_up .rfl

theorem withPort (b : Byte) {k : PortId → State × Answer} (hk : ∀ p, s.LinksCounted (k p).1) :
    s.LinksCounted (withPort b s k).1 := by
  unfold Machine.withPort
  split
  · exact hk _
  · exact refl s

/-- Every owner of a request counts the links it ends. -/
theorem own (r : Request) (s : State) : s.LinksCounted (own r s).1 := by
  have hk := State.LinksKept.refl s
  cases r with
  | identify | getQueue | getSummary => exact refl s
  | restart m => simp only [Machine.own, ownRestart]; split <;> exact refl s
  | setProfile f l x => exact .of_kept (hk.setProfile f l x)
  | getProfile p | getPort p | getPartnerPages p => exact withPort p fun _ => refl s
  | setAdmin p a => exact withPort p fun q => by split <;> [exact refl s; exact .of_kept (hk.setAdmin q _)]
  | portRestart p => exact withPort p fun q => .of_kept (hk.portRestart q)
  | clearFlags p k => exact withPort p fun q => modPort s q fun _ => rfl
  | setWatch p x m =>
    exact withPort p fun q => by
      split
      · exact refl s
      · refine modPort s q fun y => ?_
        unfold Port.watchFor Port.rearm
        dsimp only
        split <;> rfl
  | clearCounters p => exact withPort p fun q => modPort s q fun _ => rfl
  | loadPages p gs =>
    exact withPort p fun q => by
      split
      · exact refl s
      · split
        · exact refl s
        · exact modPort s q fun _ => rfl
  | clearPages p =>
    exact withPort p fun q => by
      split
      · exact refl s
      · exact modPort s q fun _ => rfl
  | startTest p x a c y d =>
    exact withPort p fun q => by
      split
      · exact .of_kept (hk.startTest q _ _ _ _ _)
      · exact refl s
  | cancelTest x v =>
    simp only [Machine.own, ownCancelTest]
    split
    · split
      · exact refl s
      · exact .of_kept (hk.cancelFound _)
    · split
      · exact .of_kept (hk.cancelFound _)
      · exact refl s
    · exact refl s
  | restoreEngine e =>
    simp only [Machine.own, ownRestoreEngine]
    split
    · exact refl s
    · exact .of_kept (hk.restoreEngine _)
  | getResult p => exact withPort p fun _ => by split <;> exact refl s
  | readTrace k p f c =>
    simp only [Machine.own, ownReadTrace]
    split
    · split <;> exact refl s
    · exact refl s
  | releaseTrace k =>
    simp only [Machine.own, ownReleaseTrace]
    split
    · exact refl s
    · split <;> exact refl s
  | fetchReports => simp only [Machine.own, ownFetchReports]; split <;> exact refl s

/-! ### The management line (chapter 11) -/

theorem dispatch (s : State) (f : Frame) : s.LinksCounted (s.dispatch f) := by
  unfold State.dispatch
  split
  · exact refl s
  · exact refl s
  · exact own _ s

theorem serve (s : State) : s.LinksCounted s.serve := by
  unfold State.serve
  split
  · exact refl s
  · split
    · exact of_before (dispatch _ _) rfl
    · exact refl s

theorem serveIfIdle (s : State) : s.LinksCounted s.serveIfIdle := by
  unfold State.serveIfIdle
  split
  · exact serve s
  · exact refl s

theorem offerFrame (s : State) (f : Frame) : s.LinksCounted (s.offerFrame f) := by
  unfold State.offerFrame
  split
  · exact of_before (serveIfIdle _) rfl
  · split
    · exact of_before (serveIfIdle _) rfl
    · exact refl s

theorem hostRequest (s : State) (tag : Byte) (r : Request) : s.LinksCounted (s.hostRequest tag r) := by
  unfold State.hostRequest
  split
  · exact refl s
  · exact offerFrame s _

theorem character (s : State) (c : Byte) (framingError : Bool) : s.LinksCounted (s.character c framingError) := by
  unfold State.character
  split
  · split <;> exact refl s
  · split <;> exact refl s
  · split
    · exact refl s
    · split
      · exact refl s
      · unfold State.frameComplete
        dsimp only
        split
        · exact of_before (offerFrame _ _) rfl
        · exact refl s

/-- A warm restart leaves every link up or down as it is (R25, R81). -/
theorem warmRestart (s : State) : s.LinksCounted s.warmRestart := by
  intro p
  have hp : s.warmRestart.port p = (s.abortAll.port p).warm (s.abortAll.profile p) := by
    simp [State.warmRestart, State.warmBlocks, State.port]
  have hw := Port.warm_eq (s.abortAll.profile p) (s.abortAll.port p) _ rfl
  have hu : ((s.abortAll.port p).warm (s.abortAll.profile p)).state = .up ↔ (s.abortAll.port p).state = .up := by
    rw [hw]
    cases hs : (s.abortAll.port p).state <;> simp [Port.holding, Port.bareIn, hs]
  have ha : (s.abortAll.port p).state = (s.port p).state := (State.PortsNoted.abortAll (.refl s) p).state
  exact .of_up (by rw [hp, hu, ha])

/-- The last character of a reply leaves; only a cold restart pending behind it takes links down uncounted
(R183, R188). -/
theorem replySent (h : ∀ x, s.sender ≠ .sending x (some .cold)) : s.LinksCounted s.replySent := by
  unfold State.replySent
  split
  · exact refl s
  · exact of_before (serve _) rfl
  · next x m hx =>
    cases m with
    | cold => exact absurd hx (h x)
    | warm => exact warmRestart s

end State.LinksCounted
/-! ### Every command -/

/-- A converged training at its port: in TRAIN the port enters UP with a LINK_UP, elsewhere nothing moves (R4, R28). -/
theorem Port.converged_cases (m : Nat) (map : PairMap) (polarity : BitVec 4) (q : Port) :
    q.converged m map polarity = quiet q ∨
      q.state = .train ∧
        ∃ k, q.converged m map polarity = { port := q.enterUp k map polarity, events := [.linkUp] } := by
  unfold Port.converged
  split
  · exact .inr ⟨‹_›, _, rfl⟩
  · exact .inl rfl

/-- A port that a convergence has brought UP counts one link more, flagged, whatever follows (R28, R55). -/
theorem State.move_enterUp_settle (s : State) (p : PortId) (k : Link) (map : PairMap) (polarity : BitVec 4) {t : State}
    (ht : t = (s.move p { port := (s.port p).enterUp k map polarity, events := [.linkUp] }).settle) :
    (t.port p).counters.linkUps = bump 65535 (s.port p).counters.linkUps ∧ hasKind (t.port p).flags .linkUp = true := by
  have hk := State.LinksKept.settle
    (.refl (s.move p { port := (s.port p).enterUp k map polarity, events := [.linkUp] })) p
  rw [← ht] at hk
  refine ⟨?_, hk.flags _ (State.change_flag s p _ (.head _))⟩
  rw [hk.ups, State.move, (State.change_noted s p _ _).counters]
  rfl

/-- The commands that make a cold start of the part (R164, R188, R189). -/
def State.StartsCold (s : State) (i : Instr) : Prop :=
  i = .powerOn ∨ i = .resetAssert ∨ i = .resetRelease ∨ i = .replySent ∧ ∃ x, s.sender = .sending x (some .cold)

/-- After a cold start every port is DISABLED (R24). -/
theorem exec_of_startsCold {s t : State} {i : Instr} (hi : s.StartsCold i) (h : exec i s = .next t) (p : PortId) :
    (t.port p).state = .disabled := by
  have hcold (c : RestartCause) : ((s.coldStart c).port p).state = .disabled := by
    simp [State.coldStart, State.port, coldPort]
  rcases hi with rfl | rfl | rfl | ⟨rfl, x, hx⟩ <;> obtain rfl := Host.Outcome.next.inj h
  · exact hcold _
  · exact hcold s.lastCause
  · exact hcold _
  · simp only [State.replySent, hx, State.restart]
    exact hcold _

/-- Every command but a cold start and a converged training makes no link and counts the links it ends. -/
theorem exec_linksCounted {s t : State} {i : Instr} (hs : s.testsSound) (h : exec i s = .next t)
    (hi : ¬s.StartsCold i) (hc : ∀ p m map polarity, i ≠ .trainingConverged p m map polarity) :
    s.LinksCounted t := by
  have hk := State.LinksKept.refl s
  simp only [State.StartsCold, not_or, not_and, not_exists] at hi
  obtain ⟨hpower, hassert, hrelease, hreply⟩ := hi
  cases i <;> obtain rfl := Host.Outcome.next.inj h
  case energyPresent p => exact .of_kept (.arrive (hk.change (.energyOn p _ _)))
  case energyAbsent p => exact .of_kept (.arrive (hk.change (.energyOff p _ _)))
  case partnerWord p w => exact .of_kept (.arrive (hk.move (.hear p _ w _)))
  case trainingConverged p m map polarity => exact absurd rfl (hc p m map polarity)
  case trainingFailed p => exact .of_kept (.arrive (hk.move (.failTraining _ _)))
  case marginSample p x => exact .of_kept (.arrive (hk.marginSample p _))
  case signalLost p => exact .of_kept (.arrive (hk.move (.loseSignal _ _)))
  case exchangeTimerExpiry p => exact .of_kept (hk.move (p := p) (.exchangeExpired _ _)).settle
  case trainingTimerExpiry p => exact .of_kept (hk.move (p := p) (.trainingExpired _ _)).settle
  case holdoffWaitEnd p => exact .of_kept (hk.change (.holdoffEnded p _ _)).settle
  case energyAbsenceTimerExpiry p => exact .of_kept (hk.change (.absenceExpired p _ _)).settle
  case recheckTimerExpiry p => exact .of_kept (hk.recheckExpired p)
  case agingClockExpiry n => exact .of_kept (hk.agingExpired n)
  case busCheckPass e => exact .of_kept (hk.noted (.busPass (.refl s) e))
  case busCheckFail e => exact .of_kept (hk.noted (.busFail (.refl s) e))
  case listenAttemptEnd e c => exact .of_kept (hk.noted (.listenEnd (.refl s) e c))
  case listenWaitEnd e => exact .of_kept (hk.noted (.listenWaitEnd (.refl s) e))
  case launchCaptured e c => exact .of_kept (hk.noted (.launch (.refl s) e c))
  case analysisDone e => exact .of_kept (hk.noted (.analysisDone (.refl s) e))
  case releaseEnd e =>
    split
    · exact .of_kept (.releaseEnd hs ‹_›)
    · exact .refl s
  case mrxCharacter c x =>
    split
    · exact .refl s
    · exact .character s c x
  case gapTimerExpiry => exact .refl s
  case replySent => exact .replySent (hreply rfl)
  case powerOn => exact absurd rfl hpower
  case resetAssert => exact absurd rfl hassert
  case resetRelease => exact absurd rfl hrelease
  all_goals exact .hostRequest s _ _

/-- A converged training makes a link at its port in TRAIN and nowhere else, counted and flagged (R28, R55). -/
theorem exec_trainingConverged_links {s t : State} {p' : PortId} {m : Byte} {map : PairMap} {polarity : BitVec 4}
    (h : exec (.trainingConverged p' m map polarity) s = .next t) (p : PortId) :
    (s.port p).LinkCounted (t.port p) ∨
      p' = p ∧ (s.port p).state = .train ∧
        (t.port p).counters.linkUps = bump 65535 (s.port p).counters.linkUps ∧
        hasKind (t.port p).flags .linkUp = true := by
  obtain rfl := Host.Outcome.next.inj h
  by_cases hlow : s.resetLow = true
  · exact .inl (.of_up (by rw [State.arrive, if_pos hlow]))
  rw [State.arrive_of_running (eq_false_of_ne_true hlow)]
  rcases Port.converged_cases m.toNat map polarity (s.port p') with hq | ⟨hs, k, hq⟩ <;> rw [hq]
  · have hk := (State.LinksKept.refl s).move (.quiet (s.port p'))
    exact .inl (hk.settle p).counted
  · by_cases e : p' = p
    · subst e
      exact .inr ⟨rfl, hs, s.move_enterUp_settle p' k map polarity rfl⟩
    · have hk := State.LinksKept.settle
        (.refl (s.move p' { port := (s.port p').enterUp k map polarity, events := [.linkUp] })) p
      rw [State.move, State.change_port_ne s p' _ _ (Ne.symm e)] at hk
      exact .inl hk.counted

/-- Settles O59: a command is a cold start, a converged training, or one that counts the links it ends. -/
theorem linkChangesAreCounted : Obligations.LinkChangesAreCounted := by
  intro s t i p hs h
  by_cases hi : s.StartsCold i
  · have hd := exec_of_startsCold hi h p
    refine ⟨fun _ hu => by simp [hd] at hu, fun _ _ h1 h2 h3 h4 => ?_⟩
    rcases hi with rfl | rfl | rfl | ⟨-, x, hx⟩
    · exact absurd rfl h1
    · exact absurd rfl h2
    · exact absurd rfl h3
    · exact absurd hx (h4 x)
  · have hc : (s.port p).LinkCounted (t.port p) ∨ ∃ m map polarity, i = .trainingConverged p m map polarity ∧
        (s.port p).state = .train ∧ (t.port p).counters.linkUps = bump 65535 (s.port p).counters.linkUps ∧
        hasKind (t.port p).flags .linkUp = true := by
      by_cases hc : ∃ p' m map polarity, i = .trainingConverged p' m map polarity
      · obtain ⟨p', m, map, polarity, rfl⟩ := hc
        rcases exec_trainingConverged_links h p with hk | ⟨rfl, hlink⟩
        · exact .inl hk
        · exact .inr ⟨m, map, polarity, rfl, hlink⟩
      · exact .inl (exec_linksCounted hs h hi (by simpa using hc) p)
    rcases hc with hk | ⟨m, map, polarity, rfl, ht, hups, hflag⟩
    · refine ⟨fun hd hu => absurd hu (hk.down hd), fun hu hd _ _ _ _ => ?_⟩
      have hl := hk.lost hu hd
      exact ⟨hl.drops, hl.lastDown, hl.flag⟩
    · exact ⟨fun _ _ => ⟨⟨m, map, polarity, rfl⟩, ht, hups, hflag⟩, fun hu => by simp [ht] at hu⟩

end Sys2Proof.Machine
end

section
/-! SUPPORT. Flagged events, the condition word and the watch (chapter 3). -/

namespace Sys2Proof.Machine

/-! ### The condition word and the mask (R45, R50) -/

/-- The mask says which fields are compared (R50). -/
theorem matchesWord_iff (mask : FieldSet) (x w : CondWord) :
    matchesWord mask x w = true ↔
      (mask.getLsbD 0 = true → w.link = x.link) ∧ (mask.getLsbD 1 = true → w.speed = x.speed) ∧
      (mask.getLsbD 2 = true → w.role = x.role) ∧ (mask.getLsbD 3 = true → w.pairMap = x.pairMap) ∧
      (mask.getLsbD 4 = true → w.polarity = x.polarity) ∧ (mask.getLsbD 5 = true → w.energy = x.energy) ∧
      (mask.getLsbD 6 = true → w.marginLow = x.marginLow) ∧ (mask.getLsbD 7 = true → w.stalled = x.stalled) ∧
      (mask.getLsbD 8 = true → w.testing = x.testing) := by
  have hb (b c : Bool) : (!b || c) = true ↔ (b = true → c = true) := by cases b <;> simp
  simp only [matchesWord, Bool.and_eq_true, hb, beq_iff_eq, and_assoc]

/-- A port that is not UP shows no speed, no role and no low margin (R45). -/
theorem Port.word_of_not_up {q : Port} (h : q.state ≠ .up) :
    q.word.speed = none ∧ q.word.role = none ∧ q.word.marginLow = false := by
  simp [word, h]

/-- A port UP shows its link (R45). -/
theorem Port.word_of_up {q : Port} (h : q.state = .up) {k : Link} (hk : q.link = some k) :
    q.word.speed = some k.speed ∧ q.word.role = some k.role ∧ q.word.marginLow = q.marginLow := by
  simp [word, h, hk]

/-! ### Flagged events (R55, R58, R60) -/

/-- The triggers are four kinds, of which LINK_DOWN only with two of its causes (R60). -/
theorem isTrigger_iff (triggers : KindSet) (ev : FlagEvent) :
    isTrigger triggers ev = true ↔
      hasKind triggers ev.kind = true ∧
        (ev.kind = .stall ∨ ev.kind = .trainFail ∨ ev.kind = .departure ∨ ev = .linkDown .signalLost ∨
          ev = .linkDown .margin) := by
  cases ev with
  | linkDown c => cases c <;> simp [isTrigger, FlagEvent.kind]
  | _ => simp [isTrigger, FlagEvent.kind]

/-- Steps 1 and 2 of R58 written out. -/
theorem State.flagAndReport_eq (s : State) (p : PortId) (ev : FlagEvent) :
    s.flagAndReport p ev =
      { s with
        ports := s.ports.set p { s.port p with flags := (s.port p).flags ||| (1#9 <<< ev.kind.idx) },
        reports := if hasKind (s.profile p).reportEnables ev.kind = true
                   then addEvent p ev (s.port p).word s.reports else s.reports } := by
  have hw : ((s.modPort p fun q => q.setFlag ev.kind).port p).word = (s.port p).word := by
    rw [modPort_port_self]
    rfl
  have hp : (s.modPort p fun q => q.setFlag ev.kind).profile p = s.profile p := rfl
  simp only [flagAndReport, hw, hp]
  split <;> rfl

/-! ### The watch (R51, R52, R54) -/

namespace Port

variable {q : Port}

/-- A comparison that matches arms the watch (R51). -/
theorem compare_of_hit (h : q.hit = true) : q.compare = { q with watch := { q.watch with state := .armed } } := by
  simp only [compare, watchNext, h]
  rfl

/-- A comparison that does not match trips an ARMED watch (R51). -/
theorem compare_of_departs (h : q.hit = false) (ha : q.watch.state = .armed) :
    q.compare = { q with watch := { q.watch with state := .tripped } } := by
  simp only [compare, watchNext, h, ha]
  rfl

/-- A comparison that does not match leaves any other watch (R51). -/
theorem compare_of_miss (h : q.hit = false) (ha : q.watch.state ≠ .armed) : q.compare = q := by
  have hx : watchNext q.watch.state false = q.watch.state := by
    cases hs : q.watch.state with
    | armed => exact absurd hs ha
    | _ => rfl
  rw [compare, h, hx]
  rfl

end Port

/-- Where the word is not offered the watch is left alone (R51, R54). -/
theorem State.offerWord_of_not_offered {s : State} {p : PortId} {old : CondWord}
    (h : (s.port p).state = .test ∨ (s.port p).word = old) : s.offerWord p old = s := by
  have : (s.port p).suspended = true ∨ (s.port p).word = old := h.imp_left fun e => by simp [Port.suspended, e]
  simp only [offerWord, if_pos this]

/-- A changed word is compared outside TEST, and an ARMED watch that does not match departs (R51, R52). -/
theorem State.offerWord_of_offered {s : State} {p : PortId} {old : CondWord} (ht : (s.port p).state ≠ .test)
    (hw : (s.port p).word ≠ old) :
    s.offerWord p old =
      if (s.port p).watch.state = .armed ∧ (s.port p).hit = false
      then (s.setPort p (s.port p).compare).flagEvent p .departure else s.setPort p (s.port p).compare := by
  have : ¬((s.port p).suspended = true ∨ (s.port p).word = old) := by simp [Port.suspended, ht, hw]
  simp only [offerWord, if_neg this, Port.departs, Bool.and_eq_true, beq_iff_eq, Bool.not_eq_true']

/-- Settles O43: the word field by field, the mask, a flagged event by its trigger, and the offer by the comparison. -/
theorem eventsAndTheWatch : Obligations.EventsAndTheWatch := by
  refine ⟨fun q => ⟨beq_iff_eq, Port.word_of_not_up, fun _ hs hk => Port.word_of_up hs hk, rfl, rfl, rfl,
    beq_iff_eq, beq_iff_eq⟩, matchesWord_iff, fun s p => ⟨?_, ?_, fun q evs => rfl⟩⟩
  · rintro ev t triggers rfl rfl
    rw [← State.flagAndReport_eq]
    exact if_congr (isTrigger_iff _ ev) rfl rfl
  · rintro old q at_ rfl rfl
    refine ⟨State.offerWord_of_not_offered, fun ht hw => ?_⟩
    rw [State.offerWord_of_offered ht hw]
    refine ⟨fun hm => ?_, fun hm => ⟨fun ha => ?_, fun ha => ?_⟩⟩
    · rw [if_neg fun h => Bool.false_ne_true (h.2.symm.trans hm), Port.compare_of_hit hm]
    · rw [if_pos ⟨ha, hm⟩, Port.compare_of_departs hm ha]
    · rw [if_neg fun h => ha h.1, Port.compare_of_miss hm ha, State.setPort_back]

end Sys2Proof.Machine
end

section
/-! SUPPORT. Training, the downshift memory and the live link (chapter 2). -/

namespace Sys2Proof.Machine

/-! ### The downshift memory (R30, R31) -/

theorem FailCounts.get_set_self (x : FailCounts) (c : Speed) (n : Nat) : (x.set c n).get c = n := by cases c <;> rfl

/-- The lowest class of a set is the one with no other below it. -/
theorem lowestSpeed_eq_some {x : SpeedSet} {c : Speed} (h : hasSpeed x c = true)
    (hb : ∀ c' : Speed, c'.idx < c.idx → hasSpeed x c' = false) : lowestSpeed x = some c := by
  have h0 := hb .s100
  have h1 := hb .s1g
  have h2 := hb .s2g5
  have h3 := hb .s5g
  have h4 := hb .s10g
  cases c <;> simp_all [Speed.idx, lowestSpeed]

/-- No class of a set lies below its lowest. -/
theorem lowestSpeed_ne_some {x : SpeedSet} {c c' : Speed} (hc : c'.idx < c.idx) (h : hasSpeed x c' = true) :
    lowestSpeed x ≠ some c := by
  intro hl
  obtain ⟨-, i, hi, rfl, hbelow⟩ := List.find?_eq_some_iff_getElem.mp hl
  have hplace : ∀ i : Fin 5, [Speed.s100, .s1g, .s2g5, .s5g, .s10g][i].idx = i := by decide
  have hlt : c'.idx < i := lt_of_lt_of_eq hc (hplace ⟨i, hi⟩)
  have hclass : [Speed.s100, .s1g, .s2g5, .s5g, .s10g][c'.idx]'(hlt.trans hi) = c' := by cases c' <;> rfl
  simpa [hclass, h] using hbelow c'.idx hlt

/-- A removal or stall is decided exactly in EXCHANGE mode, for a class of the effective set whose count has reached
downshift_after (R31). -/
theorem removalDue_iff (r : Profile) (c : Speed) (q : Port) :
    removalDue r c q = true ↔
      r.linkMode = .exchange ∧ r.downshiftAfter ≠ 0 ∧ r.downshiftAfter ≤ q.failCounts.get c ∧
        hasSpeed (effectiveSet r q.removed) c = true := by
  simp only [removalDue, Bool.and_eq_true, beq_iff_eq, bne_iff_ne, decide_eq_true_eq, and_assoc]

theorem effectiveSet_of_exchange {r : Profile} (h : r.linkMode = .exchange) (x : SpeedSet) :
    effectiveSet r x = r.allowed &&& ~~~x := by simp only [effectiveSet, h]

namespace Port

variable {r : Profile} {c : Speed} {q : Port}

/-- A training failure that decides on nothing waits in HOLDOFF (R31). -/
theorem trainingFailure_of_not_due (h : removalDue r c (q.countFailure c) = false) :
    q.trainingFailure r c = { port := (q.countFailure c).holding r.holdoffMs, events := [.trainFail] } := by
  simp only [trainingFailure, h]
  rfl

/-- A class above the lowest is removed, and the port waits in HOLDOFF (R31). -/
theorem trainingFailure_of_removal (h : removalDue r c (q.countFailure c) = true)
    (hl : lowestSpeed (effectiveSet r q.removed) ≠ some c) :
    q.trainingFailure r c =
      { port := Port.holding r.holdoffMs
          (countDownshift { q.countFailure c with removed := q.removed ||| oneSpeed c }),
        events := [.trainFail, .downshift] } := by
  have hl' : lowestSpeed (effectiveSet r (q.countFailure c).removed) ≠ some c := hl
  simp only [trainingFailure, h, if_true, if_neg hl']
  rfl

/-- The lowest class is not removed: the port stalls (R31, R35). -/
theorem trainingFailure_of_exhausted (h : removalDue r c (q.countFailure c) = true)
    (hl : lowestSpeed (effectiveSet r q.removed) = some c) :
    q.trainingFailure r c =
      { port := (q.countFailure c).stalling .trainingExhausted,
        events := [.trainFail, .stall .trainingExhausted] } := by
  have hl' : lowestSpeed (effectiveSet r (q.countFailure c).removed) = some c := hl
  simp only [trainingFailure, h, if_true, if_pos hl']
  rfl

/-- In TRAIN a convergence makes the link, and the counts of its class start anew (R28, R30). -/
theorem converged_of_train (hs : q.state = .train) {x : Role} (ht : q.training = some (c, x)) (m : Nat) (map : PairMap)
    (polarity : BitVec 4) :
    q.converged m map polarity =
      { port := { q.bareIn .up with
          link := some { speed := c, role := x, margin := m }, pairMap := map, polarity := polarity,
          failCounts := q.failCounts.set c 0,
          counters := { q.counters with linkUps := bump 65535 q.counters.linkUps } },
        events := [.linkUp] } := by
  simp only [converged, hs, ht]
  rfl

theorem failTraining_of_train (hs : q.state = .train) {x : Role} (ht : q.training = some (c, x)) (r : Profile) :
    q.failTraining r = q.trainingFailure r c := by
  simp only [failTraining, hs, ht]

end Port

/-! ### Training (R27, R28, R31) -/

/-- A move and the pass after it are one cause at the port. -/
theorem State.move_settle (s : State) (p : PortId) (m : Moved) :
    (s.move p m).settle = s.becomes p m.port m.events := rfl

theorem exec_trainingConverged {s : State} (h : s.resetLow = false) (p : PortId) (m : Byte) (map : PairMap)
    (polarity : BitVec 4) :
    exec (.trainingConverged p m map polarity) s =
      .next (s.becomes p ((s.port p).converged m.toNat map polarity).port
        ((s.port p).converged m.toNat map polarity).events) := by
  simp only [exec, execTrainingConverged, State.arrive_of_running h, State.move_settle]

theorem exec_trainingFailed {s : State} (h : s.resetLow = false) (p : PortId) :
    exec (.trainingFailed p) s =
      .next (s.becomes p ((s.port p).failTraining (s.profile p)).port
        ((s.port p).failTraining (s.profile p)).events) := by
  simp only [exec, execTrainingFailed, State.arrive_of_running h, State.move_settle]

theorem exec_trainingTimerExpiry (s : State) (p : PortId) :
    exec (.trainingTimerExpiry p) s =
      .next (s.becomes p ((s.port p).trainingExpired (s.profile p)).port
        ((s.port p).trainingExpired (s.profile p)).events) := rfl

/-- Settles O40: the two ends of a training, and a failure by `removalDue` and the lowest class. -/
theorem trainingOutcomes : Obligations.TrainingOutcomes := by
  refine ⟨?_, ?_⟩
  · rintro s p q c x rfl hs ht
    refine ⟨fun m map polarity hlow => ?_, fun hlow => ?_, fun htimer => ?_⟩
    · rw [exec_trainingConverged hlow, Port.converged_of_train hs ht]
    · rw [exec_trainingFailed hlow, Port.failTraining_of_train hs ht]
    · rw [exec_trainingTimerExpiry, Port.trainingExpired, if_pos (Option.isSome_iff_ne_none.mpr htimer),
        Port.failTraining_of_train hs ht]
  · rintro r c q f n eff rfl rfl rfl
    have hdue := removalDue_iff r c (q.countFailure c)
    have hcount : (q.countFailure c).failCounts.get c = bump 255 (q.failCounts.get c) := FailCounts.get_set_self _ _ _
    have hremoved : (q.countFailure c).removed = q.removed := rfl
    rw [hcount, hremoved] at hdue
    refine ⟨fun hn => ?_, fun hm h0 hle hin => ?_⟩
    · refine Port.trainingFailure_of_not_due (Bool.eq_false_iff.mpr fun hd => ?_)
      obtain ⟨hm, h0, hle, hin⟩ := hdue.mp hd
      rw [effectiveSet_of_exchange hm] at hin
      rcases hn with e | e | e | e
      · simp [e] at hm
      · exact h0 e
      · omega
      · simp [e] at hin
    · have heff := effectiveSet_of_exchange hm q.removed
      have hd := hdue.mpr ⟨hm, h0, hle, heff ▸ hin⟩
      refine ⟨fun ⟨c', hc', hbelow⟩ => ?_, fun hlow => ?_⟩
      · exact Port.trainingFailure_of_removal hd (heff ▸ lowestSpeed_ne_some hc' hbelow)
      · exact Port.trainingFailure_of_exhausted hd (heff ▸ lowestSpeed_eq_some hin hlow)

/-! ### The live link (R39 to R44) -/

/-- The margin alarm after a sample (R41). -/
theorem alarmAfter_eq_true_iff (r : Profile) (low : Bool) (m : Nat) :
    alarmAfter r low m = true ↔ if low then m < r.marginAlarm + r.marginHyst else m < r.marginAlarm := by
  cases low <;> simp [alarmAfter]

/-- A margin drop is due exactly while margin_drop is set, five samples have come and the smoothed margin is below it
(R42). -/
theorem dropDue_iff {r : Profile} {q : Port} {m : Nat} (h : q.smoothed = some m) :
    dropDue r q = true ↔ r.marginDrop ≠ 0 ∧ 5 ≤ q.samples ∧ m < r.marginDrop := by
  simp [dropDue, h, and_assoc]

/-- The first change of a margin sample is the move to the sampled record, with its alarm (R40, R41). -/
theorem State.sampleChange_eq {s : State} {p : PortId} {x : Nat} {q : Port}
    (hq : (s.port p).sample (s.profile p) x = q) :
    s.sampleChange p x =
      s.change p (fun _ => q) (if q.marginLow = true ∧ (s.port p).marginLow = false then [.marginLow] else []) := by
  subst hq
  simp only [sampleChange, move, Bool.and_eq_true, Bool.not_eq_true']

theorem exec_signalLost {s : State} (h : s.resetLow = false) (p : PortId) :
    exec (.signalLost p) s =
      .next (s.becomes p ((s.port p).loseSignal (s.profile p)).port ((s.port p).loseSignal (s.profile p)).events) := by
  simp only [exec, execSignalLost, State.arrive_of_running h, State.move_settle]

theorem exec_marginSample {s : State} (h : s.resetLow = false) (p : PortId) (x : Byte) :
    exec (.marginSample p x) s = .next (s.marginSample p x.toNat).settle := by
  simp only [exec, execMarginSample, State.arrive_of_running h]

/-- Settles O41: a margin sample is two changes of an UP port, the second made where a drop is due after the first. -/
theorem liveLinkArrivals : Obligations.LiveLinkArrivals := by
  rintro s p q r k hlow rfl rfl hs hk
  refine ⟨fun x m low q' t hm halarm hq' ht => ?_, ?_⟩
  · have hsample : (s.port p).sample (s.profile p) x.toNat = q' := by
      have hsm : smoothedAfter (s.port p).smoothed x.toNat = m := by rw [hm]; rfl
      have hl : alarmAfter (s.profile p) (s.port p).marginLow m = low := by
        rw [Bool.eq_iff_iff, alarmAfter_eq_true_iff, halarm]
      rw [Port.sample, hsm, hl, hq']
    have hchange : s.sampleChange p x.toNat = t := by
      rw [State.sampleChange_eq hsample, ht, hq']
    have hbare : (t.port p).bare = q'.bare := by rw [ht, State.change_bare]
    have hlink : (t.port p).link = some k := by
      rw [show (t.port p).link = q'.link from (congrArg Port.link hbare :), hq', ← hk]
    have hsmoothed : (t.port p).smoothed = some m := by
      rw [show (t.port p).smoothed = q'.smoothed from (congrArg Port.smoothed hbare :), hq']
    have hsamples : (t.port p).samples = q'.samples := (congrArg Port.samples hbare :)
    have hprofile : t.profile p = s.profile p := by simp [ht, State.profile]
    have hdue := dropDue_iff (r := s.profile p) hsmoothed
    rw [hsamples] at hdue
    have hexec : exec (.marginSample p x) s = .next (t.dropChange p).settle := by
      rw [exec_marginSample hlow, State.marginSample, if_pos hs, hchange]
    rw [hexec]
    simp only [State.dropChange, hlink, hprofile]
    refine ⟨fun hno => ?_, fun h0 h5 hlt f hf => ?_⟩
    · rw [if_neg fun hd => ?_]
      obtain ⟨h0, h5, hlt⟩ := hdue.mp hd
      omega
    · rw [if_pos (hdue.mpr ⟨h0, h5, hlt⟩), hf]
      rfl
  · rw [exec_signalLost hlow, Port.loseSignal, if_pos hs]
    rfl

end Sys2Proof.Machine
end

section
/-! SUPPORT. The requests CLEAR_COUNTERS and PORT_RESTART at a port, and what a profile write does there (R39, R47,
R170). -/

namespace Sys2Proof.Machine

/-! ### CLEAR_COUNTERS (R47) -/

/-- A byte that names no port is refused (R186). -/
theorem withPort_of_noPort {b : Byte} (h : noPort b) (s : State) (k : PortId → State × Answer) :
    withPort b s k = (s, refuse .badPort) := by
  have hp : portOf b = none := by
    unfold noPort at h
    exact dif_neg (by omega)
  simp only [withPort, hp]

/-- Settles O15: the owner of CLEAR_COUNTERS answers from the record it then writes. -/
theorem clearCountersReadsThenClears : Obligations.ClearCountersReadsThenClears := by
  intro s tag port hl
  rw [exec_request_of_lineFree hl (r := .clearCounters port) rfl rfl, own, ownClearCounters]
  refine ⟨fun hn => ?_, fun p hp => ?_⟩
  · rw [withPort_of_noPort hn]
    rfl
  · rw [withPort_of_portIs hp]
    rfl

/-! ### PORT_RESTART (R32, R33, R39, R44, R89) -/

namespace Port

variable {q : Port}

theorem restarted_of_disabled (h : q.state = .disabled) (r : Profile) :
    q.restarted r = quiet { q.forgetful with tie := 0 } := by
  simp only [restarted, clearMemory_eq, forgetful, h]

theorem restarted_of_test (h : q.state = .test) (r : Profile) :
    q.restarted r = quiet { q.forgetful with tie := 0, returnToStall := false } := by
  simp only [restarted, clearMemory_eq, forgetful, h]

theorem restarted_of_up (h : q.state = .up) (r : Profile) :
    q.restarted r =
      { port := { (q.forgetful.dropped .restart).holding r.holdoffMs with tie := 0 },
        events := [.linkDown .restart] } := by
  simp only [restarted, clearMemory_eq, forgetful, h]
  rfl

/-- Every other port goes to HOLDOFF with no event (R39). -/
theorem restarted_of_linkless {x : LinkState} (hx : q.state = x) (r : Profile) (hd : x ≠ .disabled := by decide)
    (ht : x ≠ .test := by decide) (hu : x ≠ .up := by decide) :
    q.restarted r = quiet { q.forgetful.holding r.holdoffMs with tie := 0 } := by
  subst hx
  unfold restarted
  dsimp only
  split
  case h_1 e => exact absurd e hd
  case h_2 e => exact absurd e ht
  case h_3 e => exact absurd e hu
  all_goals rfl

/-- A port that leaves LISTEN, an exchange, TRAIN or HOLDOFF for HOLDOFF shows the same condition word. -/
theorem word_holding {x : LinkState} (hx : q.state = x) (ms : Nat) (hu : x ≠ .up := by decide)
    (hs : x ≠ .stalled := by decide) (ht : x ≠ .test := by decide) :
    word { q.forgetful.holding ms with tie := 0 } = q.word := by
  simp [word, holding, bareIn, forgetful, hx, hu, hs, ht]

end Port

/-- Outside TEST a PORT_RESTART is one move apart. -/
theorem State.portRestart_of_not_test {s : State} {p : PortId} (ht : (s.port p).state ≠ .test) {m : Moved}
    (hm : (s.port p).restarted (s.profile p) = m) :
    s.portRestart p = s.apart fun s => s.becomes p m.port m.events := by
  subst hm
  refine State.apart_congr ?_
  have ht' : ((s.setPending []).port p).state ≠ .test := ht
  simp only [if_neg ht']
  rfl

/-- A PORT_RESTART that moves nothing the condition word shows writes the record and nothing else. -/
theorem State.portRestart_of_word {s : State} (hd : s.passDue = false) {p : PortId} {q : Port}
    (ht : (s.port p).state ≠ .test) (hm : (s.port p).restarted (s.profile p) = quiet q)
    (hw : q.word = (s.port p).word) : s.portRestart p = s.setPort p q :=
  (portRestart_of_not_test ht hm).trans (apart_becomes_of_word hd hw)

/-- In TEST a PORT_RESTART writes the record and aborts the test that runs on the port (R39, R89). -/
theorem State.portRestart_of_test {s : State} {p : PortId} (ht : (s.port p).state = .test) :
    s.portRestart p = s.apart fun s =>
      ((s.setPort p { (s.port p).forgetful with tie := 0, returnToStall := false }).abortPort p).settle := by
  refine State.apart_congr ?_
  have ht' : ((s.setPending []).port p).state = .test := ht
  have hc : (s.setPending []).change p
      (fun _ => { ((s.setPending []).port p).forgetful with tie := 0, returnToStall := false }) [] =
      (s.setPending []).setPort p { ((s.setPending []).port p).forgetful with tie := 0, returnToStall := false } :=
    change_of_word rfl
  simp only [if_pos ht', Port.restarted_of_test ht', quiet, hc]

theorem State.settle_of_not_due {s : State} (h : s.passDue = false) : s.settle = s := by simp [settle, h]

/-- The abort at a port finds the engine in the bank busy map (R83); with none there it calls for no pass. -/
theorem State.setPort_abortPort_settle {s : State} (hd : s.passDue = false) (p : PortId) (q : Port) :
    ((s.setPort p q).abortPort p).settle = match s.bank (bankOf p) with
      | some u => if u.port = p then ((s.setPort p q).abort u.engine).settle else s.setPort p q
      | none => s.setPort p q := by
  have hb : (s.setPort p q).bank (bankOf p) = s.bank (bankOf p) := rfl
  have hs : (s.setPort p q).settle = s.setPort p q := settle_of_not_due hd
  rw [abortPort, engineAt, hb]
  cases s.bank (bankOf p) with
  | none => exact hs
  | some u => by_cases h : u.port = p <;> simp [h, hs]

theorem exec_portRestart {s : State} (hl : s.lineFree) {port : Byte} {p : PortId} (hp : portIs port p) (tag : Byte)
    {t : State} (ht : s.portRestart p = t) :
    exec (.portRestart tag port) s = .next (t.replied tag 0x86#8 (taken [byteOf (t.port p).state.code])) := by
  rw [exec_request_of_lineFree hl (r := .portRestart port) rfl rfl, own, ownPortRestart, withPort_of_portIs hp, ht]
  rfl

/-- Settles O12: `Port.restarted` by link state, where only a port STALLED or UP shows a new word to its watch. -/
theorem portRestartForgets : Obligations.PortRestartForgets := by
  intro s tag port p hl hd hp t ht
  refine exec_portRestart hl hp tag ?_
  rw [ht]
  split
  case h_1 hs =>
    exact State.portRestart_of_word hd (by simp [hs]) (Port.restarted_of_disabled hs _) rfl
  case h_7 hs =>
    exact (State.portRestart_of_not_test (by simp [hs]) (Port.restarted_of_linkless hs _)).trans (State.apart_congr rfl)
  case h_8 hs =>
    exact (State.portRestart_of_not_test (by simp [hs]) (Port.restarted_of_up hs _)).trans (State.apart_congr rfl)
  case h_9 hs =>
    rw [State.portRestart_of_test hs]
    exact State.apart_congr (State.setPort_abortPort_settle (s := s.setPending []) hd p _)
  all_goals
    next hs =>
      exact State.portRestart_of_word hd (by simp [hs]) (Port.restarted_of_linkless hs _) (Port.word_holding hs _)

/-! ### SET_PROFILE at one port (R170, R171) -/

/-- The consequences of a write at the port record (R170). -/
theorem Port.afterWrite_eq (old new : Profile) (q x : Port)
    (hx : x = (if old.allowed = new.allowed ∧ old.linkMode = new.linkMode then q else q.forgetful)) :
    q.afterWrite old new =
      if old.allowed = new.allowed ∧ old.linkMode = new.linkMode ∧ old.forced = new.forced ∧
          old.roleClass = new.roleClass
      then x
      else match x.state with
        | .stalled => x.holding new.holdoffMs
        | .test => { x with returnToStall := false }
        | .disabled | .listen | .offer | .extend | .train | .up | .holdoff => x := by
  have hset : setChanged old new = true ↔ ¬(old.allowed = new.allowed ∧ old.linkMode = new.linkMode) := by
    simp only [setChanged, Bool.or_eq_true, bne_iff_ne]
    tauto
  have hlink : linkChanged old new = true ↔ ¬(old.allowed = new.allowed ∧ old.linkMode = new.linkMode ∧
      old.forced = new.forced ∧ old.roleClass = new.roleClass) := by
    simp only [linkChanged, Bool.or_eq_true, hset, bne_iff_ne]
    tauto
  have hq : (if setChanged old new then q.clearMemory else q) = x := by
    rw [hx, Port.clearMemory_eq]
    by_cases h : old.allowed = new.allowed ∧ old.linkMode = new.linkMode
    · rw [if_pos h, if_neg fun e => hset.mp e h]
    · rw [if_neg h, if_pos (hset.mpr h)]
  unfold Port.afterWrite
  simp only [hq]
  by_cases h : old.allowed = new.allowed ∧ old.linkMode = new.linkMode ∧ old.forced = new.forced ∧
      old.roleClass = new.roleClass
  · rw [if_pos h, if_neg fun e => hlink.mp e h]
  · rw [if_neg h, if_pos (hlink.mpr h)]
    cases x.state <;> rfl

/-- Writing a recheck timer's own value back changes nothing. -/
theorem State.setRecheck_back (s : State) (p : PortId) : s.setRecheck p (s.recheckOf p) = s := by
  simp [setRecheck, recheckOf]

/-- A write is a change of its port, after which the recheck timer is what the two recheck fields say (R71, R170). -/
theorem State.writeProfile_eq (s : State) (r : Profile) (p : PortId) :
    s.writeProfile r p =
      ((s.setProfile p r).change p (Port.afterWrite (s.profile p) r) []).setRecheck p
        (if (s.profile p).recheckS = r.recheckS ∧ (s.profile p).recheckMode = r.recheckMode then s.recheckOf p
         else if r.recheckS = 0 then none else some r.recheckS) := by
  have hre : ((s.setProfile p r).change p (Port.afterWrite (s.profile p) r) []).recheckOf p = s.recheckOf p := by
    simp [recheckOf]
  have hchanged : recheckChanged (s.profile p) r = true ↔
      ¬((s.profile p).recheckS = r.recheckS ∧ (s.profile p).recheckMode = r.recheckMode) := by
    simp only [recheckChanged, Bool.or_eq_true, bne_iff_ne]
    tauto
  by_cases h : (s.profile p).recheckS = r.recheckS ∧ (s.profile p).recheckMode = r.recheckMode
  · rw [if_pos h, ← hre, setRecheck_back, writeProfile, if_neg fun e => hchanged.mp e h]
  · rw [if_neg h, writeProfile, if_pos (hchanged.mpr h)]
    rfl

/-- Settles O20: a write is `State.writeProfile_eq`, a change of its port by `Port.afterWrite_eq`. -/
theorem profileWriteConsequences : Obligations.ProfileWriteConsequences := by
  rintro s t r old p rfl rfl
  rw [State.writeProfile_eq]
  refine ⟨?_, fun p' hp => ⟨?_, ?_, ?_⟩, ?_, fun q hq => ?_, ?_, ?_, ?_, ?_⟩
  · simp [State.profile, State.setProfile]
  · exact (by simp [State.profile] : _ = (s.setProfile p r).profile p').trans (State.setProfile_profile_ne s p r p' hp)
  · exact State.change_port_ne (s.setProfile p r) p _ _ hp
  · rw [State.setRecheck_recheckOf_ne _ _ _ _ hp]
    simp [State.recheckOf]
  · exact State.setRecheck_recheckOf_self _ _ _
  · exact (State.change_bare (s.setProfile p r) p _ _).trans
      (congrArg Port.bare (Port.afterWrite_eq (s.profile p) r (s.port p) q hq))
  all_goals simp

end Sys2Proof.Machine
end

section
/-! SUPPORT. GET_PORT: the 58 bytes of its body field by field (R190, R196, R200). -/

namespace Sys2Proof.Machine

/-! ### Slices of a body laid out in fields -/

/-- The bytes of a field stand after those of the fields before it. -/
theorem slice_flatten {fields : List (List Byte)} {lengths : List Nat} (h : fields.map List.length = lengths) (i : Nat)
    (hi : i < fields.length) :
    slice (lengths.take i).sum ((lengths.take (i + 1)).sum - (lengths.take i).sum) fields.flatten = fields[i] := by
  subst h
  rw [slice, ← List.drop_take, List.drop_take_succ_flatten_eq_getElem]

/-! ### Flags and optional items (R196) -/

/-- Each flag of a byte stands at its place. -/
theorem getLsbD_flagByte (l : List Bool) (i : Nat) :
    (flagByte l).getLsbD i = (decide (i < 8) && l.getD i false) := by
  induction l generalizing i with
  | nil => simp [flagByte]
  | cons b rest ih =>
    cases i with
    | zero => cases b <;> simp [flagByte, byteOfBool]
    | succ i =>
      have hb : (byteOfBool b).getLsbD (i + 1) = false := by cases b <;> simp [byteOfBool]
      rw [flagByte, BitVec.getLsbD_or, hb, Bool.or_false, BitVec.getLsbD_shiftLeft, Nat.add_sub_cancel, ih]
      by_cases h : i + 1 < 8
      · have h' : i < 8 := by omega
        simp [h, h']
      · simp [h]

/-- A byte of two flags as a sum. -/
theorem flagByte_two (a b : Bool) : flagByte [a, b] = byteOfBool a + (if b then 2 else 0) := by
  cases a <;> cases b <;> rfl

theorem shown_length (b : Bool) (l : List Byte) : (shown b l).length = l.length := by
  cases b <;> simp [shown]

theorem offerOr_length (w : Option OfferWord) : (offerOr w).length = 5 := by
  cases w <;> rfl

/-! ### The fields of GET_PORT (R200) -/

/-- The body of GET_PORT cut at the fields of its layout. -/
def portFields (p : PortId) (r : Profile) (q : Port) : List (List Byte) :=
  [[portByte p, byteOf q.state.code, byteOfBool q.enabled], bytes16 (encodeWord q.word),
   [speedByte (effectiveSet r q.removed)], [portPresence q], [byteOf q.tie, byteOfBool q.returnToStall],
   bytesOf16 q.samples, counterBytes q.counters, setBytes q.flags,
   bytes16 (encodeWord q.watch.expectation) ++ setBytes q.watch.mask,
   [byteOf q.watch.state.code, byteOfBool q.suspended],
   [byteOf q.pages.length, byteOf q.log.length, byteOfBool q.truncated],
   [byteOf q.failCounts.s100, byteOf q.failCounts.s1g, byteOf q.failCounts.s2g5, byteOf q.failCounts.s5g,
    byteOf q.failCounts.s10g, speedByte q.removed],
   offerOr q.ownOffer, offerOr q.partnerOffer,
   shown (inExchange q) [byteOf (ackCode q.ownAck), flagByte [q.localDone, q.partnerDone]],
   shown (q.state == .train) (trainingBytes q.training), shown (q.state == .up) (linkBytes q.link),
   shown (q.state == .up) [byteOr id q.smoothed], [byteOr DownCause.code q.lastDown],
   shown (stallShown q) [byteOr StallCause.code q.stallCause]]

/-- The lengths of these fields. -/
def portLengths : List Nat := [3, 2, 1, 1, 2, 2, 10, 2, 4, 2, 3, 6, 5, 5, 2, 2, 3, 1, 1, 1]

theorem portFields_lengths (p : PortId) (r : Profile) (q : Port) :
    (portFields p r q).map List.length = portLengths := by
  simp only [portFields, List.map_cons, List.map_nil, shown_length, offerOr_length]
  rfl

theorem portBody_eq_flatten (p : PortId) (r : Profile) (q : Port) : portBody p r q = (portFields p r q).flatten := by
  simp only [portFields, portBody, List.flatten_cons, List.flatten_nil, List.append_nil, List.append_assoc,
    List.cons_append, List.nil_append]

theorem portBody_length (p : PortId) (r : Profile) (q : Port) : (portBody p r q).length = 58 := by
  rw [portBody_eq_flatten, List.length_flatten, portFields_lengths]
  rfl

/-- The field at each of the 20 places of the layout. -/
theorem portBody_slice (p : PortId) (r : Profile) (q : Port) (i : Fin 20) :
    slice (portLengths.take i).sum ((portLengths.take (i + 1)).sum - (portLengths.take i).sum) (portBody p r q) =
      (portFields p r q)[i.val]'i.isLt := by
  rw [portBody_eq_flatten]
  exact slice_flatten (portFields_lengths p r q) i.val i.isLt

/-! ### The fields by what they show (R190) -/

theorem portByte_of_portIs {b : Byte} {p : PortId} (h : portIs b p) : portByte p = b := by
  refine BitVec.eq_of_toNat_eq ?_
  have := p.isLt
  unfold portIs at h
  simp [portByte, byteOf, h]
  omega

theorem offerOr_eq (w : Option OfferWord) :
    offerOr w = (match w with
      | some w =>
        [speedByte w.speeds, byteOf w.roleClass.code] ++ bytes16 (w.seed.setWidth 16) ++
          [byteOfBool w.hasPages + (if w.heard then 2 else 0)]
      | none => [0, 0, 0, 0, 0]) := by
  cases w with
  | none => rfl
  | some w => simp only [offerOr, offerBytes, flagByte_two]

theorem speedByte_effectiveSet (r : Profile) (x : SpeedSet) :
    speedByte (effectiveSet r x) = BitVec.setWidth 8 (match r.linkMode with
      | .exchange => r.allowed &&& ~~~x
      | .forced => 1#5 <<< r.forced.idx) := by
  simp only [speedByte, effectiveSet]
  cases r.linkMode <;> rfl

theorem inExchange_iff (q : Port) : inExchange q = true ↔ q.state = .offer ∨ q.state = .extend := by
  simp [inExchange]

theorem stallShown_iff (q : Port) :
    stallShown q = true ↔
      q.stallCause.isSome ∧ (q.state = .stalled ∨ q.state = .test ∧ q.returnToStall = true) := by
  simp [stallShown]

/-- The presence byte bit by bit (R200). -/
theorem portPresence_bits (q : Port) :
    (portPresence q).getLsbD 0 = q.ownOffer.isSome ∧ (portPresence q).getLsbD 1 = q.partnerOffer.isSome ∧
      ((portPresence q).getLsbD 2 = true ↔ q.state = .offer ∨ q.state = .extend) ∧
      ((portPresence q).getLsbD 3 = true ↔ q.state = .train) ∧ ((portPresence q).getLsbD 4 = true ↔ q.state = .up) ∧
      ((portPresence q).getLsbD 5 = true ↔ q.state = .up ∧ q.smoothed.isSome) ∧
      (portPresence q).getLsbD 6 = q.lastDown.isSome ∧
      ((portPresence q).getLsbD 7 = true ↔ q.stallCause.isSome ∧
        (q.state = .stalled ∨ q.state = .test ∧ q.returnToStall = true)) := by
  simp only [portPresence, getLsbD_flagByte]
  simp [inExchange_iff, stallShown_iff]

/-! ### The optional groups: what they show where present, zeros elsewhere (R190, R196) -/

theorem exchangeField_eq (q : Port) :
    shown (inExchange q) [byteOf (ackCode q.ownAck), flagByte [q.localDone, q.partnerDone]] =
      if q.state = .offer ∨ q.state = .extend
      then [match q.ownAck with
            | none => 0
            | some false => 1
            | some true => 2,
            byteOfBool q.localDone + (if q.partnerDone then 2 else 0)]
      else [0, 0] := by
  have ha : byteOf (ackCode q.ownAck) = (match q.ownAck with
      | none => 0
      | some false => 1
      | some true => 2) := by
    rcases q.ownAck with _ | _ | _ <;> rfl
  by_cases h : q.state = .offer ∨ q.state = .extend
  · rw [if_pos h, ← ha, flagByte_two, (inExchange_iff q).mpr h]
    rfl
  · rw [if_neg h, Bool.eq_false_iff.mpr fun e => h ((inExchange_iff q).mp e)]
    rfl

theorem trainingField_eq (q : Port) :
    shown (q.state == .train) (trainingBytes q.training) = (match q.state, q.training with
      | .train, some (c, x) => [byteOf c.code, byteOf x.code]
      | _, _ => [0, 0]) := by
  cases q.state <;> rcases q.training with _ | ⟨c, x⟩ <;> rfl

theorem linkField_eq (q : Port) :
    shown (q.state == .up) (linkBytes q.link) = (match q.state, q.link with
      | .up, some k => [byteOf k.speed.code, byteOf k.role.code, byteOf k.margin]
      | _, _ => [0, 0, 0]) := by
  cases q.state <;> cases q.link <;> rfl

theorem smoothedField_eq (q : Port) :
    shown (q.state == .up) [byteOr id q.smoothed] = (match q.state, q.smoothed with
      | .up, some m => [byteOf m]
      | _, _ => [0]) := by
  cases q.state <;> cases q.smoothed <;> rfl

theorem lastDownField_eq (q : Port) :
    [byteOr DownCause.code q.lastDown] = (match q.lastDown with
      | some c => [byteOf c.code]
      | none => [0]) := by
  cases q.lastDown <;> rfl

theorem stallField_eq (q : Port) :
    shown (stallShown q) [byteOr StallCause.code q.stallCause] = (match q.stallCause with
      | some c =>
        if q.state = .stalled ∨ q.state = .test ∧ q.returnToStall = true then [byteOf c.code] else [0]
      | none => [0]) := by
  have hs := stallShown_iff q
  cases hc : q.stallCause with
  | none => cases stallShown q <;> rfl
  | some c =>
    rw [hc] at hs
    by_cases h : q.state = .stalled ∨ q.state = .test ∧ q.returnToStall = true
    · rw [hs.mpr ⟨rfl, h⟩]
      exact (if_pos h).symm
    · rw [Bool.eq_false_iff.mpr fun e => h (hs.mp e).2]
      exact (if_neg h).symm

/-- Settles O13: each slice is the field at its place, by what it shows. -/
theorem getPortLayout : Obligations.GetPortLayout := by
  intro s tag port p hl hp
  have hslice := portBody_slice p (s.profile p) (s.port p)
  refine ⟨portBody p (s.profile p) (s.port p), ?_, portBody_length _ _ _, ?_, hslice 1, ?_, fun x hx => ?_, hslice 4,
    hslice 5, hslice 6, hslice 7, hslice 8, ?_, hslice 10, hslice 11, ?_, ?_, ?_, ?_, ?_, ?_, ?_⟩
  · rw [exec_request_of_lineFree hl (r := .getPort port) rfl rfl, own, ownGetPort, withPort_of_portIs hp]
    rfl
  · exact (hslice 0).trans (by simp [portFields, portByte_of_portIs hp])
  · exact (hslice 2).trans (congrArg (fun x => [x]) (speedByte_effectiveSet _ _))
  · obtain rfl : portPresence (s.port p) = x := List.singleton_injective ((hslice 3).symm.trans hx)
    exact portPresence_bits _
  · exact (hslice 9).trans (by simp [portFields, Port.suspended, byteOfBool])
  · rintro n w (⟨rfl, rfl⟩ | ⟨rfl, rfl⟩)
    · exact (hslice 12).trans (offerOr_eq _)
    · exact (hslice 13).trans (offerOr_eq _)
  · exact (hslice 14).trans (exchangeField_eq _)
  · exact (hslice 15).trans (trainingField_eq _)
  · exact (hslice 16).trans (linkField_eq _)
  · exact (hslice 17).trans (smoothedField_eq _)
  · exact (hslice 18).trans (lastDownField_eq _)
  · exact (hslice 19).trans (stallField_eq _)

end Sys2Proof.Machine
end

section
/-! SUPPORT. The condition word's codec, and the two requests about flags and the watch (R50, R53, R56, R195). -/

namespace Sys2Proof.Machine

/-! ### The condition word read back (R195) -/

/-- The coded fields of a condition word, at their places. -/
theorem encodeWord_codes (w : CondWord) :
    (encodeWord w).extractLsb' 12 3 = BitVec.ofNat 3 (speedCode w.speed) ∧
    (encodeWord w).extractLsb' 10 2 = BitVec.ofNat 2 (roleCode w.role) ∧
    (encodeWord w).extractLsb' 8 2 = BitVec.ofNat 2 w.pairMap.code ∧
    (encodeWord w).extractLsb' 4 4 = w.polarity := by
  simp only [encodeWord, BitVec.extractLsb'_append_eq_ite]
  simp

/-- The flags of a condition word, at their places. -/
theorem encodeWord_flags (w : CondWord) :
    (encodeWord w).getLsbD 15 = w.link ∧ (encodeWord w).getLsbD 3 = w.energy ∧
    (encodeWord w).getLsbD 2 = w.marginLow ∧ (encodeWord w).getLsbD 1 = w.stalled ∧
    (encodeWord w).getLsbD 0 = w.testing := by
  simp only [encodeWord, bit, BitVec.getLsbD_append]
  simp

theorem speedOfField_code (x : Option Speed) : speedOfField (BitVec.ofNat 3 (speedCode x)).toNat = some x := by
  rcases x with _ | _ | _ <;> rfl

theorem roleOfField_code (x : Option Role) : roleOfField (BitVec.ofNat 2 (roleCode x)).toNat = some x := by
  rcases x with _ | _ | _ <;> rfl

theorem PairMap.ofCode_code (x : PairMap) : PairMap.ofCode (BitVec.ofNat 2 x.code).toNat = x := by
  cases x <;> rfl

/-- A condition word reads back from its two bytes. -/
theorem decodeWord_encodeWord (w : CondWord) : decodeWord (encodeWord w) = some w := by
  obtain ⟨hspeed, hrole, hmap, hpolarity⟩ := encodeWord_codes w
  obtain ⟨hlink, henergy, hmargin, hstalled, htesting⟩ := encodeWord_flags w
  simp only [decodeWord, hspeed, hrole, hmap, hpolarity, hlink, henergy, hmargin, hstalled, htesting,
    speedOfField_code, roleOfField_code, PairMap.ofCode_code]

/-- SPEED codes from 6 name no class. -/
theorem speedOfField_eq_none_iff (x : BitVec 3) : speedOfField x.toNat = none ↔ 6 ≤ x.toNat := by
  revert x; decide

/-- ROLE code 3 names no role. -/
theorem roleOfField_eq_none_iff (x : BitVec 2) : roleOfField x.toNat = none ↔ x.toNat = 3 := by
  revert x; decide

/-- Two bytes are no condition word exactly where SPEED or ROLE is undefined. -/
theorem decodeWord_eq_none_iff (w : Word) :
    decodeWord w = none ↔ 6 ≤ (w.extractLsb' 12 3).toNat ∨ (w.extractLsb' 10 2).toNat = 3 := by
  rw [← speedOfField_eq_none_iff, ← roleOfField_eq_none_iff, decodeWord]
  cases speedOfField (w.extractLsb' 12 3).toNat with
  | none => simp
  | some speed => cases roleOfField (w.extractLsb' 10 2).toNat <;> simp

/-! ### CLEAR_FLAGS (R56) -/

/-- Taking kinds out of a set, kind by kind. -/
theorem hasKind_and_not (x y : KindSet) (k : EventKind) : hasKind (x &&& ~~~y) k = (hasKind x k && !hasKind y k) := by
  have hk : k.idx < 9 := by cases k <;> decide
  simp [hasKind, hk]

/-- Settles O14: the owner of CLEAR_FLAGS answers from the record it then writes, kind by kind `hasKind_and_not`. -/
theorem clearFlagsClearsNamedKinds : Obligations.ClearFlagsClearsNamedKinds := by
  intro s tag port kinds hl
  rw [exec_request_of_lineFree hl (r := .clearFlags port kinds) rfl rfl, own, ownClearFlags]
  refine ⟨fun hn => ?_, fun p hp => ⟨(s.port p).flags &&& ~~~kindsOf kinds, hasKind_and_not _ _, ?_⟩⟩
  · rw [withPort_of_noPort hn]
    rfl
  · rw [withPort_of_portIs hp]
    rfl

/-! ### SET_WATCH (R50, R53) -/

namespace Port

/-- A port record with a watch that has not been compared yet. -/
def unarmedFor (x : CondWord) (mask : FieldSet) (q : Port) : Port :=
  { q with watch := { expectation := x, mask := mask, state := .unarmed } }

/-- A watch set anew is compared at once, except in TEST (R53, R54). -/
theorem watchFor_eq_unarmedFor (x : CondWord) (mask : FieldSet) (q : Port) :
    q.watchFor x mask = if q.state = .test then q.unarmedFor x mask else (q.unarmedFor x mask).compare := by
  simp only [watchFor, rearm, suspended, beq_iff_eq]
  rfl

/-- So it is ARMED exactly where the port, outside TEST, matches now. -/
theorem watchFor_eq {q : Port} {x : CondWord} {mask : FieldSet} {st : WatchState}
    (hst : st = .armed ∨ st = .unarmed)
    (harmed : st = .armed ↔ q.state ≠ .test ∧ matchesWord mask x q.word = true) :
    q.watchFor x mask = { q with watch := { expectation := x, mask := mask, state := st } } := by
  rw [watchFor_eq_unarmedFor]
  by_cases ht : q.state = .test
  · obtain rfl : st = .unarmed := hst.resolve_left fun h => (harmed.mp h).1 ht
    exact if_pos ht
  · rw [if_neg ht]
    by_cases hm : matchesWord mask x q.word = true
    · obtain rfl : st = .armed := harmed.mpr ⟨ht, hm⟩
      exact compare_of_hit hm
    · obtain rfl : st = .unarmed := hst.resolve_left fun h => hm (harmed.mp h).2
      exact compare_of_miss (Bool.eq_false_iff.mpr hm) nofun

end Port

/-- Settles O16: the codes by the codec of the condition word, the new state by `Port.watchFor_eq`. -/
theorem setWatchComparesFromUnarmed : Obligations.SetWatchComparesFromUnarmed := by
  intro s tag port expectation mask hl
  rw [exec_request_of_lineFree hl (r := .setWatch port expectation mask) rfl rfl, own, ownSetWatch]
  refine ⟨fun hn => ?_, fun p hp => ⟨fun hbad => ?_, fun x hx st hst harmed => ?_⟩⟩
  · rw [withPort_of_noPort hn]
    rfl
  · rw [withPort_of_portIs hp, (decodeWord_eq_none_iff expectation).mpr hbad]
    rfl
  · have hmatch : st = .armed ↔ (s.port p).state ≠ .test ∧ matchesWord (kindsOf mask) x (s.port p).word = true := by
      rw [harmed, matchesWord_iff]
      simp [kindsOf]
    rw [withPort_of_portIs hp, ← hx, decodeWord_encodeWord]
    simp only [State.modPort, State.setPort_port_self, Port.watchFor_eq hst hmatch]
    rfl

end Sys2Proof.Machine
end

section
/-! SUPPORT. The grant: what it changes at the port, the slot and the engine (R54, R86, R87, R88, R143). -/

namespace Sys2Proof.Machine

/-! ### The slot a grant claims (R143) -/

namespace State

/-- No slot is claimed where none is FREE. -/
theorem freeSlot_eq_none_iff (s : State) : s.freeSlot = none ↔ ∀ t, s.slot t ≠ .free := by
  show (List.finRange 8).find? (fun t => s.slot t == .free) = none ↔ _
  rw [← Fin.find?_eq_find?_finRange]
  simp only [Fin.find?_eq_none_iff, beq_eq_false_iff_ne]

/-- The slot claimed is the lowest-numbered FREE one. -/
theorem freeSlot_eq_some_iff (s : State) (t : SlotId) :
    s.freeSlot = some t ↔ s.slot t = .free ∧ ∀ u, u < t → s.slot u ≠ .free := by
  show (List.finRange 8).find? (fun t => s.slot t == .free) = some t ↔ _
  rw [← Fin.find?_eq_find?_finRange]
  simp only [Fin.find?_eq_some_iff, beq_iff_eq, beq_eq_false_iff_ne]

/-- A slot is claimed for a capture test, where one is FREE. -/
theorem slotFor_eq {s : State} {r : TestRecord} {slot : Option SlotId}
    (hnone : slot = none ↔ r.capture = false ∨ ∀ t, s.slot t ≠ .free)
    (hsome : ∀ t, slot = some t → s.slot t = .free ∧ ∀ u, u < t → s.slot u ≠ .free) : s.slotFor r = slot := by
  cases slot with
  | none =>
    rcases hnone.mp rfl with hc | hf
    · exact if_neg (by simp [hc])
    · rw [slotFor, (freeSlot_eq_none_iff s).mpr hf, ite_self]
  | some t =>
    have hc : r.capture = true := by
      by_contra hc
      exact absurd (hnone.mpr (.inl (by simpa using hc))) nofun
    rw [slotFor, if_pos hc, (freeSlot_eq_some_iff s t).mpr (hsome t rfl)]

end State

/-! ### The port enters TEST (R54, R88) -/

/-- A port not STALLED enters TEST with nothing to return to. -/
theorem Port.enterTest_of_not_stalled {q : Port} (h : q.state ≠ .stalled) :
    q.enterTest = { q.bareIn .test with watch := { q.watch with state := .unarmed } } := by
  simp [enterTest, setWatchState, leave, bareIn, h]

/-- A STALLED port keeps its cause in TEST, to return to it. -/
theorem Port.enterTest_of_stalled {q : Port} (h : q.state = .stalled) :
    q.enterTest =
      { q.bareIn .test with
        watch := { q.watch with state := .unarmed }, stallCause := q.stallCause, returnToStall := true } := by
  simp [enterTest, setWatchState, leave, bareIn, h]

/-- A port record as a grant leaves it, by the link state it was in. -/
def Port.granted (q : Port) : Port :=
  match q.state with
  | .up =>
    { (q.dropped .test).bareIn .test with watch := { q.watch with state := .unarmed }, flags := q.flags ||| 2#9 }
  | .stalled =>
    { q.bareIn .test with
      watch := { q.watch with state := .unarmed }, stallCause := q.stallCause, returnToStall := true }
  | .disabled | .listen | .offer | .extend | .train | .holdoff | .test =>
    { q.bareIn .test with watch := { q.watch with state := .unarmed } }

/-- A port UP is dropped with cause TEST, and its LINK_DOWN flag is set (R44, R54, R55). -/
theorem Port.granted_of_up {q : Port} (h : q.state = .up) :
    q.granted = (q.recordDown .test).enterTest.setFlag .linkDown := by
  have hs : (q.recordDown .test).state ≠ .stalled := by simp [recordDown, h]
  rw [enterTest_of_not_stalled hs]
  simp only [granted, h]
  rfl

/-- A port not UP just enters TEST. -/
theorem Port.granted_of_not_up {q : Port} (h : q.state ≠ .up) : q.granted = q.enterTest := by
  unfold granted
  split
  case h_1 hs => exact absurd hs h
  case h_2 hs => rw [enterTest_of_stalled hs]
  all_goals
    next hs => rw [enterTest_of_not_stalled (by simp [hs])]

namespace State

/-- A grant's change at its port: the LINK_DOWN of a port UP is flagged and reported and is no trigger (R54, R60, R88). -/
theorem portToTest_eq (s : State) (p : PortId) :
    s.portToTest p =
      { s with
        ports := s.ports.set p (s.port p).granted,
        reports := if (s.port p).state = .up ∧ hasKind (s.profile p).reportEnables .linkDown = true
                   then addEvent p (.linkDown .test) (s.port p).granted.word s.reports else s.reports } := by
  by_cases h : (s.port p).state = .up
  · have hflag : s.portToTest p =
        (s.modPort p fun q => (q.recordDown .test).enterTest).flagAndReport p (.linkDown .test) := if_pos h
    rw [hflag, flagAndReport_eq, modPort_port_self, modPort_ports, Vector.set_set, Port.granted_of_up h]
    simp only [h, true_and]
    rfl
  · rw [portToTest, if_neg h, Port.granted_of_not_up h, if_neg fun hu => h hu.1]
    rfl

/-- The slot a grant claims depends on the slots alone. -/
theorem slotFor_congr {s t : State} (h : t.slots = s.slots) (r : TestRecord) : t.slotFor r = s.slotFor r := by
  simp only [slotFor, freeSlot, slot, h]

/-- The five changes of a grant touch five different blocks, so each is made from the state before the grant (R87). -/
theorem grantEngine_eq (s : State) (r : TestRecord) (e : EngineId) :
    s.grantEngine r e =
      ((((s.portToTest r.port).setQueue (runRecord r.number e s.queue)).setBank (bankOf r.port)
        (some { port := r.port, engine := e })).claim e r.number (s.slotFor r)).setEngine e
          (engineFor s r (s.slotFor r)) := by
  simp only [grantEngine]
  rw [slotFor_congr (s := s) (by simp), portToTest_eq, portToTest_eq]
  cases s.slotFor r <;> rfl

end State

/-- Settles O26: the slot by `State.slotFor_eq`, the port and its report by `State.portToTest_eq`, the rest by
`State.grantEngine_eq`. -/
theorem grantSteps : Obligations.GrantSteps := by
  intro s r e
  refine ⟨fun hu hd => if_pos ⟨hu, hd⟩, fun hd slot q f w hnone hsome hq hw hf => ?_⟩
  have hgrant : s.grant r e = s.grantEngine r e := if_neg fun ⟨hu, hno⟩ => by simp [hd hu] at hno
  have hport : f = (s.port r.port).granted := by
    subst hq hw
    exact hf
  rw [hgrant, State.grantEngine_eq, State.slotFor_eq hnone hsome, State.portToTest_eq, hport, hq]
  cases slot <;> rfl

end Sys2Proof.Machine
end

section
/-! SUPPORT. The completion of a test record and the worst pair of its summary (R78, R79). -/

namespace Sys2Proof.Machine

/-! ### The worst pair (R79) -/

/-- The ranks count the classes from the worst on. -/
theorem PairClass.rank_eq_idxOf (c : PairClass) :
    c.rank = [PairClass.short, .crossShort, .opened, .lowImpedance, .highImpedance, .noisy, .normal,
      .notTested].idxOf c + 1 := by
  cases c <;> rfl

/-- Pair `y` is worse than pair `z`, or as bad and not later. -/
def PairLeads (q : Quad PairRecord) (y z : Pair) : Prop :=
  (quadGet q y).cls.rank < (quadGet q z).cls.rank ∨
    (quadGet q y).cls.rank = (quadGet q z).cls.rank ∧ y.code ≤ z.code

theorem PairLeads.trans {q : Quad PairRecord} {x y z : Pair} (h : PairLeads q x y) (k : PairLeads q y z) :
    PairLeads q x z := by
  unfold PairLeads at *
  omega

/-- The worse of two pairs leads both, and is not later than the later one. -/
theorem worse_leads (q : Quad PairRecord) {x y : Pair} (h : x.code < y.code) :
    ∃ w : Pair, w.code ≤ y.code ∧ worse (quadGet q x) (quadGet q y) = quadGet q w ∧ PairLeads q w x ∧
      PairLeads q w y := by
  unfold worse
  split
  · next hr => exact ⟨y, le_refl _, rfl, .inl hr, .inr ⟨rfl, le_refl _⟩⟩
  · next hr =>
    refine ⟨x, h.le, rfl, .inr ⟨rfl, le_refl _⟩, ?_⟩
    unfold PairLeads
    omega

/-- The worst pair leads all four. -/
theorem worstPair_leads (q : Quad PairRecord) : ∃ y : Pair, worstPair q = quadGet q y ∧ ∀ z, PairLeads q y z := by
  obtain ⟨u, hu, eu, ua, ub⟩ := worse_leads q (x := .a) (y := .b) (by decide)
  obtain ⟨v, hv, ev, vu, vc⟩ := worse_leads q (x := u) (y := .c) (Nat.lt_of_le_of_lt hu (by decide))
  obtain ⟨w, -, ew, wv, wd⟩ := worse_leads q (x := v) (y := .d) (Nat.lt_of_le_of_lt hv (by decide))
  refine ⟨w, ?_, fun z => ?_⟩
  · rw [← ew, ← ev, ← eu]
    rfl
  · cases z with
    | a => exact wv.trans (vu.trans ua)
    | b => exact wv.trans (vu.trans ub)
    | c => exact wv.trans vc
    | d => exact wd

/-! ### Completion (R78) -/

/-- A completion written out. -/
theorem State.completeRecord_eq (s : State) (r : TestRecord) (outcome : TestOutcome) (pairs : Quad PairRecord) :
    s.completeRecord r outcome pairs =
      { s with
        queue := s.queue.filter (fun y => y.number != r.number),
        ports := s.ports.set r.port { s.port r.port with flags := (s.port r.port).flags ||| 256#9 },
        reports := releaseHold r.port r.number (summaryOf r.number outcome pairs) (s.port r.port).word
          (if hasKind (s.profile r.port).reportEnables .testDone = true
           then addEvent r.port (.testDone (summaryOf r.number outcome pairs)) (s.port r.port).word s.reports
           else s.reports) } := by
  simp only [completeRecord, flagAndReport_port_self]
  rw [flagAndReport_eq]
  rfl

/-- Settles O27: the completion by `State.completeRecord_eq`, the worst pair by `worstPair_leads`. -/
theorem completionSteps : Obligations.CompletionSteps := by
  refine ⟨fun s r outcome pairs q x hq hx => ?_, fun n outcome q rank hrank => ?_⟩
  · subst hq hx
    rw [State.completeRecord_eq]
    congr 1
    refine List.filter_congr fun y _ => ?_
    rw [Bool.eq_iff_iff, bne_iff_ne, decide_eq_true_iff]
  · obtain ⟨y, hy, hl⟩ := worstPair_leads q
    refine ⟨y, by rw [summaryOf, hy], fun z => ?_⟩
    have hr (c : PairClass) : c.rank = rank c + 1 := by rw [hrank, PairClass.rank_eq_idxOf]
    have h := hl z
    simp only [PairLeads, hr] at h
    omega

end Sys2Proof.Machine
end

section
/-! SUPPORT. The test queue from outside: the first free number (R64), submissions (R68 to R70), the queue's timers
(R72, R73), START_TEST and CANCEL_TEST (R65, R66, R75, R76). -/

namespace Sys2Proof.Machine

/-! ### The first free number (R64) -/

/-- The search ends after so many numbers in use. -/
theorem freeNumber_eq_iterate (queue : List TestRecord) (fuel n : Nat) :
    ∃ k, freeNumber queue fuel n = nextTestNumber^[k] n ∧
      ∀ j < k, ∃ r ∈ queue, r.number = nextTestNumber^[j] n := by
  induction fuel generalizing n with
  | zero => exact ⟨0, rfl, nofun⟩
  | succ fuel ih =>
    by_cases hn : ∃ r ∈ queue, r.number = n
    · obtain ⟨k, hk, hused⟩ := ih (nextTestNumber n)
      refine ⟨k + 1, ?_, fun j hj => ?_⟩
      · rw [freeNumber, if_pos (by simpa using hn), hk, Function.iterate_succ_apply]
      · cases j with
        | zero => exact hn
        | succ j => exact hused j (by omega)
    · exact ⟨0, by rw [freeNumber, if_neg (by simpa using hn)]; rfl, nofun⟩

theorem nextTestNumber_eq {n : Nat} (h1 : 1 ≤ n) (h2 : n ≤ 65535) : nextTestNumber n = n % 65535 + 1 := by
  unfold nextTestNumber
  split <;> omega

namespace State

variable {s : State}

/-- The number a new record takes is the first free one. -/
theorem queueSound.nextFree_takeNumber (h : s.queueSound) : s.nextFree s.takeNumber := by
  obtain ⟨-, hfree⟩ := h.takeNumber
  obtain ⟨-, -, -, h1, h2⟩ := h
  obtain ⟨k, hk, hused⟩ := freeNumber_eq_iterate s.queue (s.queue.length + 1) s.nextNumber
  refine ⟨k, hk.trans (nextTestNumber_iterate h1 h2 k), hfree, fun j hj => ?_⟩
  rw [← nextTestNumber_iterate h1 h2 j]
  exact hused j hj

/-- There is one first free number. -/
theorem nextFree.unique {m n : Nat} (hm : s.nextFree m) (hn : s.nextFree n) : m = n := by
  obtain ⟨i, rfl, hmfree, hmused⟩ := hm
  obtain ⟨k, rfl, hnfree, hnused⟩ := hn
  rcases Nat.lt_trichotomy i k with hlt | rfl | hlt
  · obtain ⟨r, hr, e⟩ := hnused i hlt
    exact absurd e (hmfree r hr)
  · rfl
  · obtain ⟨r, hr, e⟩ := hmused k hlt
    exact absurd e (hnfree r hr)

theorem queueSound.takeNumber_eq (h : s.queueSound) {n : Nat} (hn : s.nextFree n) : s.takeNumber = n :=
  h.nextFree_takeNumber.unique hn

/-! ### Looking records up (R63, R64) -/

theorem queueSound.eq_of_port (h : s.queueSound) {x y : TestRecord} (hx : x ∈ s.queue) (hy : y ∈ s.queue)
    (e : x.port = y.port) : x = y := by
  obtain ⟨hp, -⟩ := h
  exact List.inj_on_of_nodup_map hp hx hy e

/-- The record found for a port is the port's. -/
theorem queueSound.recordOf_eq (h : s.queueSound) {r : TestRecord} (hr : r ∈ s.queue) :
    s.recordOf r.port = some r := by
  cases hf : s.recordOf r.port with
  | none => exact absurd rfl (recordOf_eq_none hf r hr)
  | some x =>
    obtain ⟨hx, hp⟩ := recordOf_mem hf
    rw [h.eq_of_port hx hr hp]

theorem recordOf_of_forall_ne {p : PortId} (h : ∀ r ∈ s.queue, r.port ≠ p) : s.recordOf p = none := by
  simpa [recordOf] using h

theorem recordNumbered_mem {n : Nat} {r : TestRecord} (h : s.recordNumbered n = some r) :
    r ∈ s.queue ∧ r.number = n :=
  ⟨List.mem_of_find?_eq_some h, by simpa using List.find?_some h⟩

theorem recordNumbered_of_forall_ne {n : Nat} (h : ∀ r ∈ s.queue, r.number ≠ n) : s.recordNumbered n = none := by
  simpa [recordNumbered] using h

/-- The record found by a number has it. -/
theorem queueSound.recordNumbered_eq (h : s.queueSound) {r : TestRecord} (hr : r ∈ s.queue) :
    s.recordNumbered r.number = some r := by
  cases hf : s.recordNumbered r.number with
  | none => simpa using List.find?_eq_none.mp hf r hr
  | some x =>
    obtain ⟨hx, hn⟩ := recordNumbered_mem hf
    rw [h.eq_of_number hx hr hn]

/-- A bank is reached through an engine in service (R82). -/
theorem bankReached_iff (s : State) (b : BankId) :
    s.bankReached b = true ↔ ∃ e, reaches e b = true ∧ (s.engine e).state ≠ .outOfService := by
  have hall : ∀ e : EngineId, e ∈ allEngines := by decide
  simp [bankReached, inService, List.any_eq_true, hall]

theorem bankReached_eq_false {b : BankId} (h : ∀ e, reaches e b = true → (s.engine e).state = .outOfService) :
    s.bankReached b = false := by
  by_contra hb
  obtain ⟨e, he, hs⟩ := (s.bankReached_iff b).mp (by simpa using hb)
  exact hs (h e he)

/-! ### Submissions (R68 to R70) -/

/-- A merge raises the record of the port, and calls for a pass where a PENDING one rises (R69). -/
theorem merge_eq (h : s.queueSound) {r : TestRecord} (hr : r ∈ s.queue) (y : Nat) :
    s.merge r y =
      { s with
        queue := s.queue.map (fun x => if x.port = r.port then { x with priority := max x.priority y } else x),
        passDue := s.passDue || decide (r.state = .pending ∧ r.priority < y) } := by
  have hq : raiseTo r.number y s.queue =
      s.queue.map (fun x => if x.port = r.port then { x with priority := max x.priority y } else x) := by
    refine List.map_congr_left fun x hx => ?_
    have hiff : x.number = r.number ↔ x.port = r.port :=
      ⟨fun e => by rw [h.eq_of_number hx hr e], fun e => by rw [h.eq_of_port hx hr e]⟩
    simp only [hiff]
  rw [← hq]
  unfold merge
  by_cases hd : r.state = .pending ∧ r.priority < y
  · rw [if_pos hd.symm]
    simp only [hd, decide_true, Bool.or_true, and_self]
    rfl
  · rw [if_neg fun hc => hd hc.symm]
    simp only [hd, decide_false, Bool.or_false]
    rfl

/-- A hold notice neither sees nor changes the test queue and whether a pass is due. -/
theorem holdNotice_with (s : State) (p : PortId) (n : Nat) (k : Option EventKind) (q : List TestRecord) (b : Bool) :
    State.holdNotice { s with queue := q, passDue := b } p n k =
      { s.holdNotice p n k with queue := q, passDue := b } := by
  have hm : State.meetFetch { s with queue := q, passDue := b } = { s.meetFetch with queue := q, passDue := b } := by
    show (if s.fetchAtHand && s.fetch.isNone then _ else _) = _
    unfold meetFetch
    dsimp only
    split
    · show (if Config.fetchFirst s.choices then _ else _) = _
      split <;> rfl
    · rfl
  have hw : State.profile { s with queue := q, passDue := b } p = s.profile p := rfl
  unfold holdNotice
  rw [hm, hw]
  split <;> rfl

end State

/-- Settles O24: submissions through `State.merge_eq`, the timers by the record they find. -/
theorem submissionsAndQueueTimers : Obligations.SubmissionsAndQueueTimers := by
  refine ⟨fun s p kind y hs hy => ⟨fun r hr hp => ?_, fun n new hnone hn hnew => ?_⟩,
    fun s => ⟨fun p => ⟨fun hstop => ?_, fun k t hrun ht => ?_⟩, fun n hs => ⟨fun hnone => ?_, fun r hr hnum => ?_⟩⟩⟩
  · subst hp
    have hpr : (if kind.isSome then (s.profile r.port).autoPriority else (s.profile r.port).recheckPriority) = y := by
      cases kind <;> exact hy.symm
    rw [State.submit, hs.recordOf_eq hr]
    dsimp only
    rw [hpr, State.merge_eq hs hr]
  · obtain ⟨⟨h1, h2⟩, -⟩ := hs.takeNumber
    rw [hs.takeNumber_eq hn] at h1 h2
    have hsub : submitted (s.profile p) p n kind = new := by
      subst hnew hy
      cases kind <;> rfl
    have hnext : nextTestNumber new.number = n % 65535 + 1 := by
      subst hnew
      exact nextTestNumber_eq h1 h2
    have hnum : new.number = n := by rw [hnew]
    have hb {b : Bool} (hreach : s.bankReached (bankOf p) = b) :
        (s.setNextNumber (n % 65535 + 1)).bankReached (bankOf p) = b := hreach
    simp only [State.submit, State.recordOf_of_forall_ne hnone, hs.takeNumber_eq hn, hsub, hnext]
    refine ⟨fun hreach => ?_, fun hout => ?_⟩
    · rw [hb ((s.bankReached_iff _).mpr hreach), if_pos rfl, hnum]
      exact (congrArg (State.duePass · true) (State.holdNotice_with (s.setNextNumber _) p n kind _ s.passDue)).trans
        (State.holdNotice_with (s.setNextNumber _) p n kind _ true).symm
    · rw [hb (State.bankReached_eq_false hout), if_neg (by decide), hnum]
      rfl
  · show Host.Outcome.next (s.recheckExpired p) = _
    rw [State.recheckExpired, hstop]
  · show Host.Outcome.next (s.recheckExpired p) = _
    have hload : recheckAfterExpiry (s.profile p) =
        if (s.profile p).recheckMode = .repeat ∧ (s.profile p).recheckS ≠ 0 then some (s.profile p).recheckS
        else none := by
      unfold recheckAfterExpiry loadedRecheck
      cases (s.profile p).recheckMode <;> simp
    rw [State.recheckExpired, hrun]
    dsimp only
    rw [← ht, hload]
  · show Host.Outcome.next (s.agingExpired n) = _
    rw [State.agingExpired, State.recordNumbered_of_forall_ne hnone]
  · subst hnum
    show Host.Outcome.next (s.agingExpired r.number) = _
    have hq : ageRecord r.number s.queue =
        s.queue.map (fun x => if x = r then { r with priority := r.priority + 1 } else x) := by
      refine List.map_congr_left fun x hx => ?_
      by_cases e : x = r
      · simp [e]
      · rw [if_neg e, if_neg fun hn => e (hs.eq_of_number hx hr hn)]
    have hages : r.ages = true ↔ r.state = .pending ∧ r.priority < 6 := by simp [TestRecord.ages]
    rw [State.agingExpired, hs.recordNumbered_eq hr]
    dsimp only
    rw [hq]
    simp only [hages]
    rfl

/-! ### START_TEST (R65, R66) -/

/-- START_TEST on a free line is answered by its owner. -/
theorem exec_startTest {s : State} (hl : s.lineFree) (tag port reach avg capture priority allowDrop : Byte) {t : State}
    {a : Answer} (h : ownStartTest port reach avg capture priority allowDrop s = (t, a)) :
    exec (.startTest tag port reach avg capture priority allowDrop) s = .next (t.replied tag 0x8E#8 a) := by
  rw [exec_request_of_lineFree hl rfl rfl,
    show own (.startTest port reach avg capture priority allowDrop) s = (t, a) from h]
  rfl

theorem Reach.ofCode_code (x : Reach) : Reach.ofCode x.code = some x := by cases x <;> rfl

theorem Reach.ofCode_eq_none : ∀ {n : Nat}, 3 < n → Reach.ofCode n = none
  | 0, h | 1, h | 2, h | 3, h => by omega
  | _ + 4, _ => rfl

theorem Reach.exists_code : ∀ {n : Nat}, n ≤ 3 → ∃ x : Reach, x.code = n
  | 0, _ => ⟨.short, rfl⟩
  | 1, _ => ⟨.medium, rfl⟩
  | 2, _ => ⟨.long, rfl⟩
  | 3, _ => ⟨.auto, rfl⟩
  | _ + 4, h => by omega

/-- A yes/no byte is yes exactly where it is 1 (R195). -/
theorem boolOfCode_of_le_one {b : Byte} (h : b.toNat ≤ 1) : boolOfCode b.toNat = some (decide (b = 1)) := by
  have hb : b = 0#8 ∨ b = 1#8 := by
    rcases Nat.le_one_iff_eq_zero_or_eq_one.mp h with e | e
    · exact .inl (BitVec.eq_of_toNat_eq e)
    · exact .inr (BitVec.eq_of_toNat_eq e)
  rcases hb with rfl | rfl <;> rfl

/-- A START_TEST whose codes are defined is at the checks of its port (R66). -/
theorem ownStartTest_of_codes {port reach avg capture priority allowDrop : Byte} {p : PortId} {x : Reach}
    (hp : portIs port p) (hx : x.code = reach.toNat) (hc : capture.toNat ≤ 1) (hd : allowDrop.toNat ≤ 1) (s : State) :
    ownStartTest port reach avg capture priority allowDrop s =
      s.startTest p x avg.toNat priority.toNat (decide (capture = 1)) (decide (allowDrop = 1)) := by
  rw [ownStartTest, withPort_of_portIs hp, ← hx, Reach.ofCode_code, boolOfCode_of_le_one hc, boolOfCode_of_le_one hd]

/-- An undefined code is BAD_VALUE (R66, check 2). -/
theorem ownStartTest_of_undefined {port reach avg capture priority allowDrop : Byte} {p : PortId} (hp : portIs port p)
    (h : 3 < reach.toNat ∨ 1 < capture.toNat ∨ 1 < allowDrop.toNat) (s : State) :
    ownStartTest port reach avg capture priority allowDrop s = (s, refuse .badValue) := by
  rw [ownStartTest, withPort_of_portIs hp]
  split
  · next x c d hx hc hd =>
    rcases h with h | h | h
    · rw [Reach.ofCode_eq_none h] at hx
      cases hx
    · rw [boolOfCode_eq_none h] at hc
      cases hc
    · rw [boolOfCode_eq_none h] at hd
      cases hd
  · rfl

namespace State

variable {s : State} {p : PortId}

/-- PORT_BUSY is the first of the port's checks (R66). -/
theorem startTest_of_record (h : s.queueSound) {r : TestRecord} (hr : r ∈ s.queue) (x : Reach) (avg y : Nat)
    (c d : Bool) : s.startTest r.port x avg y c d = (s, portBusy r) := by
  rw [startTest, h.recordOf_eq hr]

theorem startTest_of_up (h : ∀ r ∈ s.queue, r.port ≠ p) (hu : (s.port p).state = .up) (x : Reach) (avg y : Nat)
    (c : Bool) : s.startTest p x avg y c false = (s, refuse .linkUp) := by
  rw [startTest, recordOf_of_forall_ne h]
  exact if_pos ⟨hu, rfl⟩

theorem startTest_of_unreached (h : ∀ r ∈ s.queue, r.port ≠ p) {d : Bool} (hu : (s.port p).state = .up → d = true)
    (hb : s.bankReached (bankOf p) = false) (x : Reach) (avg y : Nat) (c : Bool) :
    s.startTest p x avg y c d = (s, refuse .noEngine) := by
  rw [startTest, recordOf_of_forall_ne h]
  dsimp only
  rw [if_neg fun hc => by simp [hu hc.1] at hc, hb, if_neg (by decide)]

theorem startTest_of_reached (h : ∀ r ∈ s.queue, r.port ≠ p) {d : Bool} (hu : (s.port p).state = .up → d = true)
    (hb : s.bankReached (bankOf p) = true) (x : Reach) (avg y : Nat) (c : Bool) :
    s.startTest p x avg y c d =
      ((s.append (requested p s.takeNumber x avg y c d)).settle,
        takenClamped (decide (6 < avg) || decide (7 < y))
          (bytesOf16 s.takeNumber ++ [byteOf (s.queue.length + 1)])) := by
  rw [startTest, recordOf_of_forall_ne h]
  dsimp only
  rw [if_neg fun hc => by simp [hu hc.1] at hc, hb, if_pos rfl]
  simp [append, requested]

end State

theorem clampTo_zero (hi n : Nat) : clampTo 0 hi n = min n hi := by
  unfold clampTo
  rw [if_neg (Nat.not_lt_zero n)]
  split <;> omega

/-- Settles O22: each check at its port, by the lemmas `State.startTest_of_…`. -/
theorem startTestByItsChecks : Obligations.StartTestByItsChecks := by
  refine ⟨fun s tag port reach avg capture priority allowDrop p x n hl hs hp hx hc hd hnone hup hreach hn => ?_,
    fun s tag port reach avg capture priority allowDrop hl hs ex hex => ⟨fun hno => ?_, fun p hp => ⟨fun hbad => ?_,
      fun hr hc hd => ⟨fun r hrm hrp => ?_, fun hnone => ⟨fun hu h0 => ?_, fun hu hout => ?_⟩⟩⟩,
      s.takeNumber, hs.nextFree_takeNumber⟩⟩
  · obtain ⟨hrange, -⟩ := hs.takeNumber
    rw [hs.takeNumber_eq hn] at hrange
    refine ⟨?_, hrange⟩
    have hown := ownStartTest_of_codes (avg := avg) (priority := priority) hp hx hc hd s
    rw [State.startTest_of_reached hnone (fun hu => by simpa using hup hu) ((s.bankReached_iff _).mpr hreach),
      hs.takeNumber_eq hn] at hown
    rw [exec_startTest hl tag port reach avg capture priority allowDrop hown]
    simp only [requested, clampTo_zero, State.append, nextTestNumber_eq hrange.1 hrange.2, takenClamped,
      Bool.or_eq_true, decide_eq_true_eq]
    rfl
  · rw [hex]
    exact exec_startTest hl _ _ _ _ _ _ _ (withPort_of_noPort hno s _)
  · rw [hex]
    exact exec_startTest hl _ _ _ _ _ _ _ (ownStartTest_of_undefined hp hbad s)
  all_goals
    obtain ⟨x, hx⟩ := Reach.exists_code hr
    have hown := ownStartTest_of_codes (avg := avg) (priority := priority) hp hx hc hd s
    rw [hex]
  · subst hrp
    rw [State.startTest_of_record hs hrm] at hown
    rw [exec_startTest hl _ _ _ _ _ _ _ hown, portBusy]
    cases r.state <;> rfl
  · rw [show decide (allowDrop = 1) = false by rw [h0]; rfl, State.startTest_of_up hnone hu] at hown
    exact exec_startTest hl _ _ _ _ _ _ _ hown
  · rw [State.startTest_of_unreached hnone (fun h => by simpa using hu h) (State.bankReached_eq_false hout)] at hown
    exact exec_startTest hl _ _ _ _ _ _ _ hown

/-! ### CANCEL_TEST (R75, R76) -/

/-- CANCEL_TEST on a free line is answered by its owner. -/
theorem exec_cancelTest {s : State} (hl : s.lineFree) (tag selector : Byte) (value : Word) {t : State} {a : Answer}
    (h : ownCancelTest selector value s = (t, a)) :
    exec (.cancelTest tag selector value) s = .next (t.replied tag 0x8F#8 a) := by
  rw [exec_request_of_lineFree hl rfl rfl, show own (.cancelTest selector value) s = (t, a) from h]
  rfl

theorem ownCancelTest_number {value : Word} (hv : value ≠ 0) (s : State) :
    ownCancelTest 0 value s = s.cancelFound (s.recordNumbered value.toNat) := if_neg hv

theorem ownCancelTest_port {value : Word} {p : PortId} (hp : p.val + 1 = value.toNat) (s : State) :
    ownCancelTest 1 value s = s.cancelFound (s.recordOf p) := by
  have hof : portOf16 value = some p := by
    have := p.isLt
    rw [portOf16, dif_pos (by omega)]
    exact congrArg some (Fin.ext (by simp [← hp]))
  show (match portOf16 value with
    | some p => s.cancelFound (s.recordOf p)
    | none => (s, refuse .badPort)) = _
  rw [hof]

/-- What a CANCEL_TEST does to the record it finds (R76). -/
theorem State.cancelFound_pending {r : TestRecord} (h : r.state = .pending) (s : State) :
    s.cancelFound (some r) =
      (s.completeRecord r .cancelled noPairs, taken (bytesOf16 r.number ++ [byteOf (r.port.val + 1), 6])) := by
  simp only [cancelFound, cancel, cancelOutcome, h]
  rfl

theorem State.cancelFound_running {r : TestRecord} {e : EngineId} (h : r.state = .running e) (s : State) :
    s.cancelFound (some r) = (s.abort e, taken (bytesOf16 r.number ++ [byteOf (r.port.val + 1), 2])) := by
  simp only [cancelFound, cancel, cancelOutcome, h]
  rfl

/-- A selector other than NUMBER and PORT is BAD_VALUE. -/
theorem ownCancelTest_of_selector {selector : Byte} (h : 1 < selector.toNat) (value : Word) (s : State) :
    ownCancelTest selector value s = (s, refuse .badValue) := by
  unfold ownCancelTest
  split
  · omega
  · omega
  · rfl

/-- Settles O23: the selector leads to a lookup, and the record found decides. -/
theorem cancelTestByRecordState : Obligations.CancelTestByRecordState := by
  intro s tag selector value hl hs ex hex
  subst hex
  refine ⟨fun hbad => ?_, fun hsel hval => ?_, fun hnone => ?_, fun r hr hfound => ?_⟩
  · refine exec_cancelTest hl tag selector value ?_
    rcases hbad with hsel | ⟨rfl, rfl⟩
    · exact ownCancelTest_of_selector hsel value s
    · rfl
  · subst hsel
    refine exec_cancelTest hl tag 1 value ?_
    show (match portOf16 value with
      | some p => s.cancelFound (s.recordOf p)
      | none => (s, refuse .badPort)) = _
    rw [portOf16, dif_neg (by omega)]
  · refine exec_cancelTest hl tag selector value ?_
    rcases hnone with ⟨rfl, hv, hno⟩ | ⟨rfl, h1, h48, hno⟩
    · rw [ownCancelTest_number hv, State.recordNumbered_of_forall_ne hno]
      rfl
    · rw [ownCancelTest_port (p := ⟨value.toNat - 1, by omega⟩) (by show value.toNat - 1 + 1 = _; omega),
        State.recordOf_of_forall_ne fun r hr hp => hno r hr (by rw [hp]; show value.toNat - 1 + 1 = _; omega)]
      rfl
  · have hown : ownCancelTest selector value s = s.cancelFound (some r) := by
      rcases hfound with ⟨rfl, hn⟩ | ⟨rfl, hp⟩
      · have hv : value ≠ 0 := by
          obtain ⟨-, -, hrange, -⟩ := hs
          rintro rfl
          exact absurd (hrange r hr).1 (by simp [hn])
        rw [ownCancelTest_number hv, ← hn, hs.recordNumbered_eq hr]
      · rw [ownCancelTest_port hp, hs.recordOf_eq hr]
    refine ⟨fun hst => ?_, fun e hst => ?_⟩
    · exact exec_cancelTest hl _ _ _ (hown.trans (State.cancelFound_pending hst s))
    · exact exec_cancelTest hl _ _ _ (hown.trans (State.cancelFound_running hst s))

end Sys2Proof.Machine
end

section
/-! SUPPORT. The report queue as a list: where an entry stands, and what each change of the queue keeps of its soundness
and of its agreement with the test queue (R151 to R161). -/

namespace Sys2Proof.Machine

/-! ### Where a port's entry stands (R151, R154) -/

/-- A port's entry splits the queue, and a change of the entry leaves all before and after it. -/
theorem entryOf_eq_some_split {p : PortId} {x : PortEntry} :
    ∀ {r : List Entry}, entryOf p r = some x →
      x.port = p ∧ ∃ l l', r = l ++ .port x :: l' ∧ ∀ f, mapEntry p f r = l ++ .port (f x) :: l'
  | [], h => by simp [entryOf] at h
  | .device d :: r, h => by
    obtain ⟨hp, l, l', rfl, hmap⟩ := entryOf_eq_some_split (r := r) h
    exact ⟨hp, .device d :: l, l', rfl, fun f => congrArg (Entry.device d :: ·) (hmap f)⟩
  | .port y :: r, h => by
    by_cases hy : y.port = p
    · obtain rfl : y = x := by simpa [entryOf, hy] using h
      exact ⟨hy, [], r, rfl, fun f => by simp [mapEntry, hy]⟩
    · obtain ⟨hp, l, l', rfl, hmap⟩ := entryOf_eq_some_split (r := r) (by simpa [entryOf, hy] using h)
      exact ⟨hp, .port y :: l, l', rfl, fun f => by simp [mapEntry, hy, hmap f]⟩

theorem entryOf_eq_none {p : PortId} : ∀ {r : List Entry}, entryOf p r = none → ∀ y ∈ r, y.owner ≠ some p
  | [], _ => List.forall_mem_nil _
  | .device _ :: r, h => by
    simpa [Entry.owner] using entryOf_eq_none (r := r) h
  | .port y :: r, h => by
    by_cases hy : y.port = p
    · simp [entryOf, hy] at h
    · simpa [Entry.owner, hy] using entryOf_eq_none (r := r) (by simpa [entryOf, hy] using h)

/-- An engine fault joins the device entry in its place, or makes one at the tail (R155). -/
theorem addFault_cases (e : EngineId) :
    ∀ r : List Entry,
      ((∀ y ∈ r, y.owner ≠ none) ∧ addFault e r = r ++ [.device { restart := none, faults := oneEngine e }]) ∨
      ∃ l d l', r = l ++ .device d :: l' ∧
        addFault e r = l ++ .device { d with faults := d.faults ||| oneEngine e } :: l'
  | [] => .inl ⟨List.forall_mem_nil _, rfl⟩
  | .device d :: r => .inr ⟨[], d, r, rfl, rfl⟩
  | .port x :: r => by
    rcases addFault_cases e r with ⟨hno, h⟩ | ⟨l, d, l', rfl, h⟩
    · exact .inl ⟨by simpa [Entry.owner] using hno, congrArg (Entry.port x :: ·) h⟩
    · exact .inr ⟨.port x :: l, d, l', rfl, congrArg (Entry.port x :: ·) h⟩

/-! ### The details of an entry (R152, R154) -/

/-- The details of a port entry are present as its kinds say. -/
def PortEntry.Detailed (x : PortEntry) : Prop :=
  x.downCause.isSome = hasKind x.kinds .linkDown ∧ x.stallCause.isSome = hasKind x.kinds .stall ∧
    x.summary.isSome = hasKind x.kinds .testDone

theorem Entry.sound_port_iff {x : PortEntry} : (Entry.port x).sound ↔ x.Detailed ∧ (x.kinds = 0 → x.hold.isSome) := by
  simp only [Entry.sound, PortEntry.Detailed, and_assoc]

theorem newEntry_detailed (p : PortId) (w : CondWord) : (newEntry p w).Detailed := by
  simp [PortEntry.Detailed, newEntry, hasKind]

theorem hasKind_addKind (x : KindSet) (k j : EventKind) : hasKind (addKind x k) j = (hasKind x j || j == k) := by
  have h : (1#9 <<< k.idx).getLsbD j.idx = (j == k) := by cases k <;> cases j <;> rfl
  rw [hasKind, addKind, BitVec.getLsbD_or, h, hasKind]

/-- An event that joins brings its own detail along. -/
theorem PortEntry.Detailed.join {x : PortEntry} (h : x.Detailed) (ev : FlagEvent) (w : CondWord) :
    (x.join ev w).Detailed := by
  obtain ⟨hd, hs, ht⟩ := h
  cases ev <;> simp [PortEntry.Detailed, PortEntry.join, FlagEvent.kind, hasKind_addKind, hd, hs, ht]

theorem PortEntry.join_kinds_ne (x : PortEntry) (ev : FlagEvent) (w : CondWord) : (x.join ev w).kinds ≠ 0 := by
  have hk : (x.join ev w).kinds = addKind x.kinds ev.kind := by cases ev <;> rfl
  intro h
  have := hasKind_addKind_self x.kinds ev.kind
  simp [← hk, h, hasKind] at this

theorem PortEntry.join_hold (x : PortEntry) (ev : FlagEvent) (w : CondWord) : (x.join ev w).hold = x.hold := by
  cases ev <;> rfl

/-! ### Agreement with the test queue (R157 to R160) -/

/-- An entry is sound, and its hold names a record of its port in the test queue. -/
def Entry.Fits (q : List TestRecord) (y : Entry) : Prop :=
  y.sound ∧ ∀ x n, y = .port x → x.hold = some n → ∃ r ∈ q, r.number = n ∧ r.port = x.port

/-- One entry per port and one for the device, and each fits the test queue. -/
def ReportsFit (q : List TestRecord) (r : List Entry) : Prop := (r.map Entry.owner).Nodup ∧ ∀ y ∈ r, y.Fits q

theorem State.reportsFit_iff (s : State) : ReportsFit s.queue s.reports ↔ s.reportsSound ∧ s.holdsSound := by
  constructor
  · rintro ⟨hn, hf⟩
    exact ⟨⟨hn, fun y hy => (hf y hy).1⟩, fun x n hx => (hf _ hx).2 x n rfl⟩
  · rintro ⟨⟨hn, hs⟩, hh⟩
    exact ⟨hn, fun y hy => ⟨hs y hy, fun x n e => hh x n (e ▸ hy)⟩⟩

/-- An entry that is not held fits where it is sound. -/
theorem Entry.Fits.of_hold_none {q : List TestRecord} {x : PortEntry} (h : (Entry.port x).sound) (hh : x.hold = none) :
    (Entry.port x).Fits q := by
  refine ⟨h, fun y n e hn => ?_⟩
  obtain rfl := Entry.port.inj e
  simp [hh] at hn

theorem Entry.Fits.of_device {q : List TestRecord} {d : DeviceEntry} (h : (Entry.device d).sound) :
    (Entry.device d).Fits q := ⟨h, fun _ _ e => nomatch e⟩

/-- An entry held for a record of its port fits. -/
theorem Entry.Fits.of_hold {q : List TestRecord} {x : PortEntry} (h : x.Detailed) {r : TestRecord} (hr : r ∈ q)
    (hp : r.port = x.port) (hh : x.hold = some r.number) : (Entry.port x).Fits q := by
  refine ⟨sound_port_iff.mpr ⟨h, fun _ => by simp [hh]⟩, fun y n e hn => ?_⟩
  obtain rfl := Entry.port.inj e
  obtain rfl : r.number = n := by simpa [hh] using hn
  exact ⟨r, hr, rfl, hp⟩

/-- An event that joins a fitting entry leaves it fitting. -/
theorem Entry.Fits.join {q : List TestRecord} {x : PortEntry} (h : (Entry.port x).Fits q) (ev : FlagEvent)
    (w : CondWord) : (Entry.port (x.join ev w)).Fits q := by
  obtain ⟨hs, hh⟩ := h
  obtain ⟨hd, -⟩ := sound_port_iff.mp hs
  refine ⟨sound_port_iff.mpr ⟨hd.join ev w, fun h0 => absurd h0 (x.join_kinds_ne ev w)⟩, fun y n e hn => ?_⟩
  obtain rfl := Entry.port.inj e
  rw [PortEntry.join_port]
  rw [PortEntry.join_hold] at hn
  exact hh x n rfl hn

/-- A fitting entry not held for the number that leaves the test queue still fits. -/
theorem Entry.Fits.of_completed {q : List TestRecord} {y : Entry} (h : y.Fits q) {n : Nat} {p : PortId}
    (hn : ∀ r ∈ q, r.number = n → r.port = p) (hy : ∀ x, y = .port x → x.port = p → x.hold ≠ some n) :
    y.Fits (q.filter (fun r => r.number != n)) := by
  refine ⟨h.1, fun x m e hm => ?_⟩
  obtain ⟨r, hr, hnum, hp⟩ := h.2 x m e hm
  refine ⟨r, List.mem_filter.mpr ⟨hr, ?_⟩, hnum, hp⟩
  rw [bne_iff_ne]
  intro hc
  exact hy x e (hp ▸ hn r hr hc) (by rw [hm, ← hnum, hc])

namespace ReportsFit

variable {q q' : List TestRecord} {r : List Entry}

theorem sublist (h : ReportsFit q r) {l : List Entry} (hl : l.Sublist r) : ReportsFit q l :=
  ⟨h.1.sublist (hl.map _), fun y hy => h.2 y (hl.subset hy)⟩

/-- Test records that keep number and port keep every hold. -/
theorem mono (h : ReportsFit q r) (hq : ∀ x ∈ q, ∃ y ∈ q', y.number = x.number ∧ y.port = x.port) :
    ReportsFit q' r := by
  refine ⟨h.1, fun y hy => ⟨(h.2 y hy).1, fun x n e hn => ?_⟩⟩
  obtain ⟨z, hz, rfl, hp⟩ := (h.2 y hy).2 x n e hn
  obtain ⟨z', hz', hn', hp'⟩ := hq z hz
  exact ⟨z', hz', hn', hp'.trans hp⟩

theorem append (h : ReportsFit q r) {y : Entry} (hno : ∀ z ∈ r, z.owner ≠ y.owner) (hy : y.Fits q) :
    ReportsFit q (r ++ [y]) := by
  refine ⟨?_, fun z hz => ?_⟩
  · rw [List.map_append]
    refine List.nodup_append.mpr ⟨h.1, by simp, fun a ha b hb => ?_⟩
    obtain ⟨z, hz, rfl⟩ := List.mem_map.mp ha
    obtain rfl : b = y.owner := by simpa using hb
    exact hno z hz
  · rcases List.mem_append.mp hz with hz | hz
    · exact h.2 z hz
    · obtain rfl := List.mem_singleton.mp hz
      exact hy

/-- One entry is replaced by another of the same owner, in a test queue that the others still fit. -/
theorem replace {l l' : List Entry} {y y' : Entry} (h : ReportsFit q (l ++ y :: l')) (ho : y'.owner = y.owner)
    (hy : y'.Fits q') (hq : ∀ z : Entry, z.Fits q → z.owner ≠ y.owner → z.Fits q') :
    ReportsFit q' (l ++ y' :: l') := by
  obtain ⟨hn, hf⟩ := h
  refine ⟨by simpa only [List.map_append, List.map_cons, ho] using hn, fun z hz => ?_⟩
  have hother (hz : z ∈ l ++ l') : z.Fits q' := by
    have hz' : z ∈ l ++ y :: l' := by
      rcases List.mem_append.mp hz with h | h <;> simp [h]
    refine hq z (hf z hz') fun e => ?_
    rw [List.map_append, List.map_cons, List.nodup_middle, List.nodup_cons, ← List.map_append] at hn
    exact hn.1 (List.mem_map.mpr ⟨z, hz, e⟩)
  rcases List.mem_append.mp hz with hz | hz
  · exact hother (List.mem_append_left _ hz)
  · rcases List.mem_cons.mp hz with rfl | hz
    · exact hy
    · exact hother (List.mem_append_right _ hz)

/-! ### What each change of the report queue keeps -/

theorem addEvent (h : ReportsFit q r) (p : PortId) (ev : FlagEvent) (w : CondWord) :
    ReportsFit q (addEvent p ev w r) := by
  unfold Machine.addEvent
  split
  · next x hx =>
    obtain ⟨hp, l, l', rfl, hmap⟩ := entryOf_eq_some_split hx
    rw [hmap]
    refine h.replace (congrArg some (x.join_port ev w)) ((h.2 (.port x) (by simp)).join ev w) fun _ hz _ => hz
  · next hx =>
    have hs : (Entry.port ((newEntry p w).join ev w)).sound :=
      Entry.sound_port_iff.mpr
        ⟨(newEntry_detailed p w).join ev w, fun h0 => absurd h0 (PortEntry.join_kinds_ne _ ev w)⟩
    have ho : (Entry.port ((newEntry p w).join ev w)).owner = some p :=
      congrArg some (PortEntry.join_port (newEntry p w) ev w)
    exact h.append (ho ▸ entryOf_eq_none hx) (.of_hold_none hs (PortEntry.join_hold (newEntry p w) ev w))

theorem addFault (h : ReportsFit q r) (e : EngineId) : ReportsFit q (addFault e r) := by
  have he (x : BitVec 4) : x ||| oneEngine e ≠ 0 := by
    revert x e
    decide
  rcases addFault_cases e r with ⟨hno, hr⟩ | ⟨l, d, l', rfl, hr⟩
  · rw [hr]
    exact h.append hno (.of_device (.inr (by simpa using he 0)))
  · rw [hr]
    exact h.replace rfl (.of_device (.inr (he d.faults))) fun _ hz _ => hz

/-- A hold attached for a record of the port in the test queue (R157). -/
theorem attachHold (h : ReportsFit q r) {y : TestRecord} (hy : y ∈ q) (w : CondWord) :
    ReportsFit q (attachHold y.port y.number w r) := by
  unfold Machine.attachHold
  split
  · next x hx =>
    split
    · obtain ⟨hp, l, l', rfl, hmap⟩ := entryOf_eq_some_split hx
      obtain ⟨hd, -⟩ := Entry.sound_port_iff.mp (h.2 (.port x) (by simp)).1
      rw [hmap]
      exact h.replace rfl (.of_hold (x := { x with hold := some y.number }) hd hy hp.symm rfl) fun _ hz _ => hz
    · exact h
  · next hx =>
    exact h.append (entryOf_eq_none hx)
      (.of_hold (x := { newEntry y.port w with hold := some y.number }) (newEntry_detailed y.port w) hy rfl rfl)

/-- A completion takes the hold for its number off, so that the holds left name records that stay (R159). -/
theorem releaseHold (h : ReportsFit q r) {n : Nat} {p : PortId} (hn : ∀ y ∈ q, y.number = n → y.port = p) (x : Summary)
    (w : CondWord) : ReportsFit (q.filter (fun y => y.number != n)) (releaseHold p n x w r) := by
  have hkeep (hno : ∀ y, entryOf p r = some y → y.hold ≠ some n) : ReportsFit (q.filter (fun y => y.number != n)) r :=
    ⟨h.1, fun z hz => (h.2 z hz).of_completed hn fun y e hp => hno y ((entryOf_eq_some_iff h.1).mpr ⟨e ▸ hz, hp⟩)⟩
  unfold Machine.releaseHold
  split
  · next y hy =>
    split
    · obtain ⟨hp, l, l', rfl, hmap⟩ := entryOf_eq_some_split hy
      obtain ⟨hd, -⟩ := Entry.sound_port_iff.mp (h.2 (.port y) (by simp)).1
      rw [hmap]
      refine h.replace rfl (.of_hold_none (Entry.sound_port_iff.mpr ⟨hd.join (.testDone x) w, fun h0 => ?_⟩) rfl)
        fun z hz ho => hz.of_completed hn fun y' e hp' => ?_
      · exact absurd h0 (y.join_kinds_ne (.testDone x) w)
      · exact absurd (by rw [e, Entry.owner, Entry.owner, hp, hp']) ho
    · next hh =>
      refine hkeep fun z hz => ?_
      obtain rfl : y = z := by simpa [hy] using hz
      exact hh
  · next hx => exact hkeep fun y hy => by simp [hx] at hy

end ReportsFit
end Sys2Proof.Machine
end

section
/-! SUPPORT. Every operation of the part keeps test queue, report queue and what a FETCH_REPORTS has taken sound and in
agreement (R63, R64, R151 to R162). -/

namespace Sys2Proof.Machine

/-! ### What is kept -/

/-- Profiles and test records are in range, the test queue is sound and the report queue fits it, and what a
FETCH_REPORTS has taken is sound: what every operation keeps. -/
structure State.Booked (s : State) : Prop where
  profiles : s.profilesSound
  queue : s.queueSound
  range : s.recordsInRange
  reports : ReportsFit s.queue s.reports
  fetch : s.fetchSound

/-- Booked, and no FETCH_REPORTS has been taken early: what the management line keeps. -/
structure State.Unfetched (s : State) : Prop where
  booked : s.Booked
  fetch_eq : s.fetch = none

/-- What soundness of the queues is about. -/
def State.ledger (s : State) : Vector Profile 48 × List TestRecord × Nat × List Entry × Option Fetched :=
  (s.profiles, s.queue, s.nextNumber, s.reports, s.fetch)

/-- What a FETCH_REPORTS at hand shows in. -/
def State.lineAndPending (s : State) :
    Bool × Receiver × List Frame × Option Reply × Sender × List Instr :=
  (s.resetLow, s.receiver, s.inbox, s.overflow, s.sender, s.pending)

theorem LineKept.lineAndPending {s t : State} (h : LineKept s t) : t.lineAndPending = s.lineAndPending := by
  simp only [State.lineAndPending, h.resetLow, h.receiver, h.inbox, h.overflow, h.sender, h.pending]

theorem State.fetchAtHand_congr {s t : State} (h : t.lineAndPending = s.lineAndPending) :
    t.fetchAtHand = s.fetchAtHand := by
  simp only [lineAndPending, Prod.mk.injEq] at h
  obtain ⟨h1, h2, h3, h4, h5, h6⟩ := h
  simp only [fetchAtHand, frameAtHand, h1, h2, h3, h4, h5, h6]

theorem State.fetchAtHand_of_pending_nil {s : State} (h : s.pending = []) : s.fetchAtHand = false := by
  have hs : s.setPending [] = s := by rw [← h]; rfl
  rw [← hs, fetchAtHand_setPending_nil]

theorem State.fetchSound_of_none {s : State} (h : s.fetch = none) : s.fetchSound := by
  intro x hx
  simp [h] at hx

theorem State.fetchSound.of_eq {s t : State} (h : s.fetchSound) (hf : t.fetch = s.fetch)
    (hk : t.lineAndPending = s.lineAndPending) : t.fetchSound := by
  intro x hx
  rw [fetchAtHand_congr hk]
  exact h x (hf ▸ hx)

/-- A hold notice neither sees nor changes the test queue. -/
theorem State.holdNotice_setQueue (s : State) (p : PortId) (n : Nat) (k : Option EventKind) (q : List TestRecord) :
    (s.setQueue q).holdNotice p n k = (s.holdNotice p n k).setQueue q := by
  refine (s.holdNotice_with p n k q s.passDue).trans ?_
  rw [State.setQueue, holdNotice_passDue]

/-- A merge leaves number and port of every record. -/
theorem State.merge_mem {s : State} {r : TestRecord} (hr : r ∈ s.queue) (y : Nat) :
    ∃ x ∈ (s.merge r y).queue, x.number = r.number ∧ x.port = r.port := by
  have hq : (s.merge r y).queue = raiseTo r.number y s.queue := by
    unfold merge
    dsimp only
    split <;> rfl
  exact ⟨{ r with priority := max r.priority y }, hq ▸ List.mem_map.mpr ⟨r, hr, if_pos rfl⟩, rfl, rfl⟩

/-- A completion does not ask whether its record was in the queue. -/
theorem State.completeRecord_append {s : State} {l : List TestRecord} (hl : s.queue = l) (r : TestRecord)
    (x : TestOutcome) (q : Quad PairRecord) :
    (s.setQueue (l ++ [r])).completeRecord r x q = s.completeRecord r x q := by
  subst hl
  have hq : (s.queue ++ [r]).filter (fun y => y.number != r.number) =
      s.queue.filter (fun y => y.number != r.number) := by
    simp [List.filter_append]
  rw [completeRecord_eq, completeRecord_eq, setQueue_queue, hq]
  rfl

namespace State.Unfetched

variable {s t : State}

/-- What changes none of the queues stays sound; with nothing taken early the line does not matter. -/
theorem of_ledger (h : s.Unfetched) (e : t.ledger = s.ledger) : t.Unfetched := by
  obtain ⟨⟨hp, hq, hr, hrep, -⟩, hn⟩ := h
  simp only [ledger, Prod.mk.injEq] at e
  obtain ⟨e1, e2, e3, e4, e5⟩ := e
  have hn' : t.fetch = none := e5.trans hn
  refine ⟨⟨?_, hq.of_eq e2 e3, ?_, by rwa [e2, e4], fetchSound_of_none hn'⟩, hn'⟩
  · simpa only [profilesSound, State.profile, e1] using hp
  · simpa only [recordsInRange, e2] using hr

end State.Unfetched

namespace State.Booked

variable {s t : State}

/-! ### Writes -/

/-- What leaves the line, the profiles and what is taken early, and keeps the queues sound. -/
theorem of_kept (h : s.Booked) (hk : t.lineAndPending = s.lineAndPending) (hp : t.profiles = s.profiles)
    (hf : t.fetch = s.fetch) (hq : t.queueSound) (hr : t.recordsInRange) (hrep : ReportsFit t.queue t.reports) :
    t.Booked := by
  refine ⟨?_, hq, hr, hrep, h.fetch.of_eq hf hk⟩
  simpa only [profilesSound, State.profile, hp] using h.profiles

/-- What changes neither the queues nor the line. -/
theorem of_ledger (h : s.Booked) (e : t.ledger = s.ledger) (hk : t.lineAndPending = s.lineAndPending) : t.Booked := by
  simp only [ledger, Prod.mk.injEq] at e
  obtain ⟨e1, e2, e3, e4, e5⟩ := e
  refine h.of_kept hk e1 e5 (h.queue.of_eq e2 e3) ?_ (by rw [e2, e4]; exact h.reports)
  simpa only [recordsInRange, e2] using h.range

/-- Where no FETCH_REPORTS is at hand, none has been taken. -/
theorem unfetched (h : s.Booked) (ha : s.fetchAtHand = false) : s.Unfetched := by
  refine ⟨h, ?_⟩
  by_contra hn
  obtain ⟨x, hx⟩ := Option.ne_none_iff_exists'.mp hn
  simp [(h.fetch x hx).1] at ha

theorem setReports (h : s.Booked) {r : List Entry} (hr : ReportsFit s.queue r) : (s.setReports r).Booked :=
  h.of_kept rfl rfl rfl (h.queue.of_eq rfl rfl) h.range hr

theorem modPort (h : s.Booked) (p : PortId) (f : Port → Port) : (s.modPort p f).Booked := h.of_ledger rfl rfl

theorem setEngine (h : s.Booked) (e : EngineId) (x : Engine) : (s.setEngine e x).Booked := h.of_ledger rfl rfl

theorem duePass (h : s.Booked) (b : Bool) : (s.duePass b).Booked := h.of_ledger rfl rfl

/-- Records change but for number and port, and stay in range. -/
theorem mapQueue (h : s.Booked) {f : TestRecord → TestRecord}
    (hf : ∀ r, (f r).port = r.port ∧ (f r).number = r.number)
    (hr : ∀ r ∈ s.queue, (f r).priority ≤ 7 ∧ (f r).avg ≤ 6) : (s.setQueue (s.queue.map f)).Booked := by
  refine h.of_kept rfl rfl rfl (h.queue.of_map hf rfl rfl) (fun x hx => ?_) (h.reports.mono fun x hx => ?_)
  · obtain ⟨r, hrm, rfl⟩ := List.mem_map.mp hx
    exact hr r hrm
  · exact ⟨f x, List.mem_map_of_mem hx, (hf x).2, (hf x).1⟩

/-- A new record of a port without one takes the free number (R63, R64, R66). -/
theorem append (h : s.Booked) {r : TestRecord} (hp : s.recordOf r.port = none) (hn : r.number = s.takeNumber)
    (hr : r.priority ≤ 7 ∧ r.avg ≤ 6) :
    ((s.setNextNumber (nextTestNumber r.number)).setQueue (s.queue ++ [r])).Booked := by
  refine h.of_kept rfl rfl rfl (h.queue.of_append hp hn rfl rfl) (fun x hx => ?_) (h.reports.mono fun x hx => ?_)
  · rcases List.mem_append.mp hx with hx | hx
    · exact h.range x hx
    · obtain rfl := List.mem_singleton.mp hx
      exact hr
  · exact ⟨x, List.mem_append_left _ hx, rfl, rfl⟩

/-! ### Flagged events, holds and completions (R58, R78, R157 to R160) -/

theorem flagAndReport (h : s.Booked) (p : PortId) (ev : FlagEvent) : (s.flagAndReport p ev).Booked := by
  refine h.of_kept (LineKept.lineAndPending (by constructor <;> simp)) (by simp) (by simp)
    (h.queue.of_eq (by simp) (by simp)) (by simpa [recordsInRange] using h.range) ?_
  rw [flagAndReport_queue, flagAndReport_reports]
  split
  · exact h.reports.addEvent _ _ _
  · exact h.reports

/-- A FETCH_REPORTS taken early takes sound entries, and is still at hand (R162). -/
theorem meetFetch (h : s.Booked) : s.meetFetch.Booked := by
  rcases s.meetFetch_cases with e | ⟨ha, -, e | e⟩ <;> rw [e]
  · exact h
  · exact h.of_ledger rfl rfl
  · refine ⟨h.profiles, h.queue.of_eq rfl rfl, h.range, h.reports.sublist (leftAfter_sublist _ _), fun x hx => ?_⟩
    obtain rfl := Option.some.inj hx
    refine ⟨ha, fetched_length_le _ _, fun y hy => ?_⟩
    obtain ⟨hm, hh⟩ := mem_fetched hy
    exact ⟨hh, (h.reports.2 y hm).1⟩

theorem holdNotice (h : s.Booked) {p : PortId} {n : Nat} (hr : ∃ r ∈ s.queue, r.number = n ∧ r.port = p)
    (k : Option EventKind) : (s.holdNotice p n k).Booked := by
  obtain ⟨r, hr, rfl, rfl⟩ := hr
  unfold State.holdNotice
  split
  · exact h.meetFetch.setReports (h.meetFetch.reports.attachHold (by simpa using hr) _)
  · exact h

/-- A completion takes its record and the hold for it (R78, R159). -/
theorem completeRecord (h : s.Booked) {r : TestRecord} (hn : ∀ y ∈ s.queue, y.number = r.number → y.port = r.port)
    (x : TestOutcome) (q : Quad PairRecord) : (s.completeRecord r x q).Booked := by
  rw [completeRecord_eq]
  refine h.of_kept rfl rfl rfl (h.queue.of_sublist List.filter_sublist rfl)
    (fun y hy => h.range y (List.mem_of_mem_filter hy)) (ReportsFit.releaseHold ?_ hn _ _)
  split
  · exact h.reports.addEvent _ _ _
  · exact h.reports

theorem completeRecord_of_mem (h : s.Booked) {r : TestRecord} (hr : r ∈ s.queue) (x : TestOutcome)
    (q : Quad PairRecord) : (s.completeRecord r x q).Booked :=
  h.completeRecord (fun _ hy e => by rw [h.queue.eq_of_number hy hr e]) x q

/-! ### Submissions (R68 to R70) -/

theorem merge (h : s.Booked) (r : TestRecord) {y : Nat} (hy : y ≤ 7) : (s.merge r y).Booked := by
  have hm {t : State} (ht : t.Booked) : (t.setQueue (raiseTo r.number y t.queue)).Booked := by
    refine ht.mapQueue (fun x => ?_) fun x hx => ?_
    · split <;> exact ⟨rfl, rfl⟩
    · obtain ⟨hp, ha⟩ := ht.range x hx
      split
      · exact ⟨Nat.max_le.mpr ⟨hp, hy⟩, ha⟩
      · exact ⟨hp, ha⟩
  unfold State.merge
  dsimp only
  split
  · exact hm (h.duePass true)
  · exact hm h

/-- The priority and averaging exponent of a submission come from the profile (R68). -/
theorem submitted_range {r : Profile} (h : r.sound) (p : PortId) (n : Nat) (k : Option EventKind) :
    (submitted r p n k).priority ≤ 7 ∧ (submitted r p n k).avg ≤ 6 := by
  obtain ⟨-, -, -, -, -, -, -, -, -, -, -, -, -, -, hauto, havg, -, hre⟩ := h
  cases k
  · exact ⟨hre, havg⟩
  · exact ⟨hauto, havg⟩

theorem submit (h : s.Booked) (p : PortId) (k : Option EventKind) : (s.submit p k).Booked := by
  have hr := submitted_range (h.profiles p) p s.takeNumber k
  unfold State.submit
  dsimp only
  split
  · next r hrec =>
    obtain ⟨hm, rfl⟩ := recordOf_mem hrec
    have hy : (if k.isSome then (s.profile r.port).autoPriority else (s.profile r.port).recheckPriority) ≤ 7 := by
      cases k <;> exact hr.1
    exact (h.merge r hy).holdNotice (merge_mem hm _) k
  · next hnone =>
    have ha : ((s.setNextNumber (nextTestNumber s.takeNumber)).setQueue
        (s.queue ++ [submitted (s.profile p) p s.takeNumber k])).Booked :=
      h.append (r := submitted (s.profile p) p s.takeNumber k) hnone rfl hr
    have hm : submitted (s.profile p) p s.takeNumber k ∈ s.queue ++ [submitted (s.profile p) p s.takeNumber k] :=
      List.mem_append_right _ (List.mem_singleton_self _)
    have hh := ha.holdNotice ⟨_, hm, rfl, rfl⟩ k
    split
    · exact hh.duePass true
    · have hc := hh.completeRecord_of_mem (r := submitted (s.profile p) p s.takeNumber k) (by simp) .noEngine noPairs
      rw [holdNotice_setQueue] at hc
      rw [← completeRecord_append (l := s.queue) (by simp)]
      exact hc

theorem flagEvent (h : s.Booked) (p : PortId) (ev : FlagEvent) : (s.flagEvent p ev).Booked := by
  unfold State.flagEvent
  dsimp only
  split
  · exact (h.flagAndReport p ev).submit p _
  · exact h.flagAndReport p ev

theorem flagEvents (h : s.Booked) (p : PortId) (evs : List FlagEvent) : (s.flagEvents p evs).Booked := by
  induction evs generalizing s with
  | nil => exact h
  | cons ev rest ih => exact ih (h.flagEvent p ev)

theorem offerWord (h : s.Booked) (p : PortId) (old : CondWord) : (s.offerWord p old).Booked := by
  have hc : (s.setPort p (s.port p).compare).Booked := h.modPort p Port.compare
  unfold State.offerWord
  dsimp only
  split
  · exact h
  · split
    · exact hc.flagEvent p _
    · exact hc

theorem change (h : s.Booked) (p : PortId) (f : Port → Port) (evs : List FlagEvent) : (s.change p f evs).Booked :=
  ((h.modPort p f).flagEvents p evs).offerWord p _

/-! ### Grants and the ends of tests (chapter 5) -/

theorem portToTest (h : s.Booked) (p : PortId) : (s.portToTest p).Booked := by
  unfold State.portToTest
  split
  · exact (h.modPort p _).flagEvent p _
  · exact h.modPort p _

theorem grantEngine (h : s.Booked) (r : TestRecord) (e : EngineId) : (s.grantEngine r e).Booked := by
  have hq : (s.setQueue (runRecord r.number e s.queue)).Booked := by
    refine h.mapQueue (fun x => ?_) fun x hx => ?_
    · split <;> exact ⟨rfl, rfl⟩
    · split <;> exact h.range x hx
  have hb : ((s.setQueue (runRecord r.number e s.queue)).setBank (bankOf r.port)
      (some { port := r.port, engine := e })).Booked := hq.of_ledger rfl rfl
  have hc {t : State} (ht : t.Booked) (slot : Option SlotId) : (t.claim e r.number slot).Booked := by
    cases slot <;> exact ht.of_ledger rfl rfl
  exact (hc (hb.portToTest r.port) _).setEngine e _

theorem grantPass (h : s.Booked) : s.grantPass.Booked := by
  refine passFuel_rec (P := State.Booked) (fun t r e hc _ ht => ?_) _ _ h
  unfold State.grant
  split
  · exact ht.completeRecord_of_mem (choice_mem hc).1 _ _
  · exact ht.grantEngine r e

theorem settle (h : s.Booked) : s.settle.Booked := by
  unfold State.settle
  split
  · exact (h.duePass false).grantPass
  · exact h

theorem settleSlot (h : s.Booked) (j : Job) (x : TestOutcome) (q : Quad PairRecord) (c : Quad (List Int)) :
    (s.settleSlot j x q c).Booked := by
  unfold State.settleSlot
  split
  · exact h
  · split <;> exact h.of_ledger rfl rfl

theorem endTest (h : s.Booked) (e : EngineId) (x : TestOutcome) (q : Quad PairRecord) : (s.endTest e x q).Booked := by
  unfold State.endTest
  dsimp only
  split
  · exact h.setEngine e _
  · next j _ =>
    split
    · exact (h.settleSlot j x q _).setEngine e _
    · next r hr =>
      have hw : (s.setResult r.port (some (resultOf r j x q))).Booked := h.of_ledger rfl rfl
      refine ((hw.settleSlot j x q _).completeRecord_of_mem ?_ x q).setEngine e _
      simpa using (recordNumbered_mem hr).1

theorem abort (h : s.Booked) (e : EngineId) : (s.abort e).Booked := by
  unfold State.abort
  split
  · exact h.endTest e _ _
  · exact h

theorem abortAll (h : s.Booked) : s.abortAll.Booked := (((h.abort 0).abort 1).abort 2).abort 3

/-- Completions one after another keep the queues sound: all records come from one sound queue (R98). -/
theorem completeStranded (h : s.Booked) : s.completeStranded.Booked := by
  have hrec : ∀ (l : List TestRecord) (t : State), t.Booked → (∀ r ∈ l, r ∈ s.queue) → (∀ r ∈ t.queue, r ∈ s.queue) →
      (l.foldl (fun t r => t.completeRecord r .noEngine noPairs) t).Booked := by
    intro l
    induction l with
    | nil => exact fun _ ht _ _ => ht
    | cons r l ih =>
      intro t ht hl hq
      obtain ⟨hr, hl⟩ := List.forall_mem_cons.mp hl
      refine ih _ (ht.completeRecord (fun y hy e => ?_) _ _) hl fun y hy => hq y ?_
      · rw [h.queue.eq_of_number (hq y hy) hr e]
      · rw [completeRecord_queue] at hy
        exact List.mem_of_mem_filter hy
  exact hrec _ s h (fun r hr => List.mem_of_mem_filter hr) fun _ => id

theorem freeEngine (h : s.Booked) (e : EngineId) : (s.freeEngine e).Booked := by
  have he (x : Engine) : (s.setEngine e x).Booked := h.setEngine e x
  unfold State.freeEngine
  dsimp only
  split
  · exact ((he _).setReports ((he _).reports.addFault e)).completeStranded
  · exact he _

theorem releaseEnd (h : s.Booked) (e : EngineId) : (s.releaseEnd e).Booked := by
  have hd {t : State} (ht : t.Booked) : ((t.freeEngine e).duePass false).grantPass.Booked :=
    ((ht.freeEngine e).duePass false).grantPass
  unfold State.releaseEnd
  dsimp only
  split
  · next j _ =>
    have hb : (s.setBank (bankOf j.port) none).Booked := h.of_ledger rfl rfl
    exact hd (hb.change j.port _ [])
  · exact hd h

/-! ### Engine events (chapter 6) -/

theorem finishPair (h : s.Booked) (e : EngineId) (x : PairRecord) : (s.finishPair e x).Booked := by
  unfold State.finishPair
  dsimp only
  split
  · exact h.setEngine e _
  · exact (h.setEngine e _).endTest e _ _

theorem busPass (h : s.Booked) (e : EngineId) : (s.busPass e).Booked := by
  unfold State.busPass
  dsimp only
  split
  · exact h.setEngine e _
  · exact h

theorem busFail (h : s.Booked) (e : EngineId) : (s.busFail e).Booked := by
  unfold State.busFail
  split
  · exact h.endTest e _ _
  · exact h

theorem listenEnd (h : s.Booked) (e : EngineId) (c : Quad (List Sample)) : (s.listenEnd e c).Booked := by
  unfold State.listenEnd
  dsimp only
  split
  · split
    · exact h
    · split
      · exact h.setEngine e _
      · split
        · exact h.setEngine e _
        · exact (h.setEngine e _).finishPair e _
  · exact h

theorem listenWaitEnd (h : s.Booked) (e : EngineId) : (s.listenWaitEnd e).Booked := by
  unfold State.listenWaitEnd
  dsimp only
  split
  · split
    · exact h.setEngine e _
    · exact h
  · exact h

theorem launch (h : s.Booked) (e : EngineId) (c : Quad (List Sample)) : (s.launch e c).Booked := by
  unfold State.launch
  dsimp only
  split
  · exact h.setEngine e _
  · exact h

theorem analysisDone (h : s.Booked) (e : EngineId) : (s.analysisDone e).Booked := by
  unfold State.analysisDone
  dsimp only
  split
  · split
    · exact h.setEngine e _
    · exact (h.setEngine e _).finishPair e _
  · exact h

/-! ### Arrivals and timers (chapters 1 to 4) -/

theorem move (h : s.Booked) (p : PortId) (m : Moved) : (s.move p m).Booked := h.change p _ m.events

theorem arrive (h : s.Booked) {f : State → State} (hf : (f s).Booked) : (s.arrive f).Booked := by
  unfold State.arrive
  split
  · exact h
  · exact hf.settle

theorem marginSample (h : s.Booked) (p : PortId) (x : Nat) : (s.marginSample p x).Booked := by
  have hs : (s.sampleChange p x).Booked := h.move p _
  unfold State.marginSample
  split
  · unfold State.dropChange
    split
    · split
      · exact hs.move p _
      · exact hs
    · exact hs
  · exact h

theorem recheckExpired (h : s.Booked) (p : PortId) : (s.recheckExpired p).Booked := by
  have hr {t : State} (ht : t.Booked) (x : Option Nat) : (t.setRecheck p x).settle.Booked :=
    settle (ht.of_ledger rfl rfl)
  unfold State.recheckExpired
  split
  · exact h
  · refine hr ?_ _
    split
    · exact h
    · exact h.submit p none

/-- The aging clock raises a record below priority 6 alone (R73). -/
theorem agingExpired (h : s.Booked) (n : Nat) : (s.agingExpired n).Booked := by
  unfold State.agingExpired
  split
  · next r hr =>
    obtain ⟨hm, rfl⟩ := recordNumbered_mem hr
    split
    · next ha =>
      have hlt : r.priority < 6 := by
        simp only [TestRecord.ages, Bool.and_eq_true, decide_eq_true_eq] at ha
        exact ha.2
      refine (h.mapQueue (fun x => ?_) fun x hx => ?_).grantPass
      · split <;> exact ⟨rfl, rfl⟩
      · obtain ⟨hp, havg⟩ := h.range x hx
        split
        · next e =>
          obtain rfl := h.queue.eq_of_number hx hm e
          exact ⟨by show x.priority + 1 ≤ 7; omega, havg⟩
        · exact ⟨hp, havg⟩
    · exact h
  · exact h

end State.Booked

/-! ### Restarts (R80, R81, R164, R165) -/

namespace State.Unfetched

variable {s t : State}

theorem coldStart (s : State) (c : RestartCause) : (s.coldStart c).Unfetched := by
  obtain ⟨hprof, -⟩ := (s.coldStart c).fits_iff.mp (.coldStart s c)
  have hnum : (s.coldStart c).nextNumber ≤ 65535 := by show 1 ≤ 65535; decide
  refine ⟨⟨hprof, ⟨List.nodup_nil, List.nodup_nil, List.forall_mem_nil _, le_refl 1, hnum⟩, List.forall_mem_nil _,
    ⟨List.nodup_singleton _, fun y hy => ?_⟩, fetchSound_of_none rfl⟩, rfl⟩
  obtain rfl := List.mem_singleton.mp hy
  exact .of_device (.inl rfl)

theorem resetAssert (s : State) : s.resetAssert.Unfetched := by
  obtain ⟨⟨hprof, hq, hr, -, -⟩, -⟩ := coldStart s s.lastCause
  exact ⟨⟨hprof, hq, hr, ⟨List.nodup_nil, List.forall_mem_nil _⟩, fetchSound_of_none rfl⟩, rfl⟩

/-- A warm restart empties both queues. -/
theorem warmRestart (h : s.Unfetched) : s.warmRestart.Unfetched := by
  obtain ⟨hprof, ⟨-, -, -, h1, h2⟩, -⟩ := h.booked.abortAll
  have hn : s.warmRestart.fetch = none := by
    show s.abortAll.fetch = none
    simpa [abortAll, allEngines] using h.fetch_eq
  refine ⟨⟨hprof, ⟨List.nodup_nil, List.nodup_nil, List.forall_mem_nil _, h1, h2⟩, List.forall_mem_nil _,
    ⟨List.nodup_singleton _, fun y hy => ?_⟩, fetchSound_of_none hn⟩, hn⟩
  obtain rfl := List.mem_singleton.mp hy
  exact .of_device (.inl rfl)

theorem restart (h : s.Unfetched) (m : RestartMode) : (s.restart m).Unfetched := by
  cases m with
  | cold => exact coldStart s _
  | warm => exact h.warmRestart

/-! ### Requests (R185) -/

/-- An operation that takes nothing early. -/
theorem of_booked (h : s.Unfetched) (ht : t.Booked) (hf : t.fetch = s.fetch) : t.Unfetched :=
  ⟨ht, hf.trans h.fetch_eq⟩

/-- With no command in sight nothing is taken early (R183, R192). -/
theorem apart (h : s.Unfetched) {f : State → State} (hf : (s.setPending []).Booked → (f (s.setPending [])).Booked)
    (hk : (f (s.setPending [])).pending = []) : (s.apart f).Unfetched := by
  have hb := hf (h.of_ledger (t := s.setPending []) rfl).booked
  exact (hb.unfetched (fetchAtHand_of_pending_nil hk)).of_ledger rfl

theorem withPort (h : s.Unfetched) (b : Byte) {k : PortId → State × Answer} (hk : ∀ p, (k p).1.Unfetched) :
    (withPort b s k).1.Unfetched := by
  unfold Machine.withPort
  split
  · exact hk _
  · exact h

theorem setAdmin (h : s.Unfetched) (p : PortId) (a : Bool) : (s.setAdmin p a).Unfetched := by
  refine h.apart (fun h => ?_) ?_
  · split <;> exact (h.change p _ _).settle
  · split <;> simp

theorem portRestart (h : s.Unfetched) (p : PortId) : (s.portRestart p).Unfetched := by
  have ha {t : State} (ht : t.Booked) : (t.abortPort p).Booked := by
    unfold State.abortPort
    split
    · exact ht.abort _
    · exact ht
  have hp (t : State) : (t.abortPort p).pending = t.pending := by
    unfold State.abortPort
    split <;> simp
  refine h.apart (fun h => ?_) ?_
  · dsimp only
    split
    · exact (ha (h.change p _ _)).settle
    · exact (h.change p _ _).settle
  · dsimp only
    split <;> simp [hp]

theorem writes {r : Profile} (hr : r.sound) (h : s.Booked) (ps : List PortId) :
    (ps.foldl (fun s p => s.writeProfile r p) s).Booked := by
  induction ps generalizing s with
  | nil => exact h
  | cons p rest ih =>
    refine ih ?_
    have hw : (s.setProfile p r).Booked := by
      refine ⟨fun p' => ?_, h.queue.of_eq rfl rfl, h.range, h.reports, h.fetch.of_eq rfl rfl⟩
      by_cases e : p' = p
      · subst e
        simpa using hr
      · simpa [State.setProfile_profile_ne _ _ _ _ e] using h.profiles p'
    have hc := hw.change p (Port.afterWrite (s.profile p) r) []
    unfold State.writeProfile
    dsimp only
    split
    · exact hc.of_ledger rfl rfl
    · exact hc

theorem setProfile (h : s.Unfetched) (f l : Byte) (x : RawProfile) : (ownSetProfile f l x s).1.Unfetched := by
  unfold ownSetProfile
  split
  · split
    · exact h
    · split
      · next hv =>
        dsimp only
        refine h.apart (fun h => (writes (rawClamped_sound hv) h _).settle) ?_
        exact LineKept.pending ((writes_kept (s.setPending []) _ _).trans (settle_kept _))
      · exact h
  · exact h

theorem startTest (h : s.Unfetched) (p : PortId) (x : Reach) (avg y : Nat) (c d : Bool) :
    (s.startTest p x avg y c d).1.Unfetched := by
  unfold State.startTest
  split
  · exact h
  · next hnone =>
    split
    · exact h
    · split
      · have hb := h.booked.append (r := requested p s.takeNumber x avg y c d) hnone rfl
          ⟨(clampTo_mem (Nat.zero_le 7) _).2, (clampTo_mem (Nat.zero_le 6) _).2⟩
        have ha : (s.append (requested p s.takeNumber x avg y c d)).Booked := hb.of_ledger rfl rfl
        exact h.of_booked ha.settle (by simp [State.append])
      · exact h

theorem cancelFound (h : s.Unfetched) {r : Option TestRecord} (hr : ∀ x, r = some x → x ∈ s.queue) :
    (s.cancelFound r).1.Unfetched := by
  cases r with
  | none => exact h
  | some r =>
    simp only [State.cancelFound, State.cancel]
    split
    · exact h.of_booked (h.booked.completeRecord_of_mem (hr r rfl) _ _) (by simp)
    · exact h.of_booked (h.booked.abort _) (by simp)

theorem cancelTest (h : s.Unfetched) (x : Byte) (v : Word) : (ownCancelTest x v s).1.Unfetched := by
  unfold ownCancelTest
  split
  · split
    · exact h
    · exact h.cancelFound fun _ hr => (recordNumbered_mem hr).1
  · split
    · exact h.cancelFound fun _ hr => (recordOf_mem hr).1
    · exact h
  · exact h

theorem restoreEngine (h : s.Unfetched) (e : EngineId) : (s.restoreEngine e).Unfetched := by
  unfold State.restoreEngine
  split
  · exact h.of_booked (h.booked.setEngine e _).grantPass (by simp)
  · exact h

/-- A FETCH_REPORTS leaves the entries it does not take (R161). -/
theorem fetchReports (h : s.Unfetched) : (ownFetchReports s).1.Unfetched := by
  unfold ownFetchReports
  rw [h.fetch_eq]
  exact h.of_booked (h.booked.setReports (h.booked.reports.sublist (leftAfter_sublist _ _))) rfl

/-- Every owner keeps the queues sound and takes nothing early. -/
theorem own (h : s.Unfetched) (r : Request) : (own r s).1.Unfetched := by
  cases r with
  | identify | getQueue | getSummary => exact h
  | restart m => simp only [Machine.own, ownRestart]; split <;> exact h
  | setProfile f l x => exact h.setProfile f l x
  | getProfile p => exact h.withPort p fun _ => h
  | setAdmin p a => exact h.withPort p fun q => by split <;> [exact h; exact h.setAdmin q _]
  | portRestart p => exact h.withPort p fun q => h.portRestart q
  | getPort p => exact h.withPort p fun _ => h
  | clearFlags p k => exact h.withPort p fun _ => h.of_ledger rfl
  | setWatch p x m => exact h.withPort p fun _ => by split <;> [exact h; exact h.of_ledger rfl]
  | clearCounters p => exact h.withPort p fun _ => h.of_ledger rfl
  | loadPages p gs =>
    exact h.withPort p fun _ => by
      split
      · exact h
      · split <;> [exact h; exact h.of_ledger rfl]
  | clearPages p => exact h.withPort p fun _ => by split <;> [exact h; exact h.of_ledger rfl]
  | getPartnerPages p => exact h.withPort p fun _ => h
  | startTest p x a c y d => exact h.withPort p fun q => by split <;> [exact h.startTest q _ _ _ _ _; exact h]
  | cancelTest x v => exact h.cancelTest x v
  | restoreEngine e =>
    simp only [Machine.own, ownRestoreEngine]
    split <;> [exact h; exact h.restoreEngine _]
  | getResult p => exact h.withPort p fun _ => by split <;> exact h
  | readTrace k p f c =>
    simp only [Machine.own, ownReadTrace]
    split
    · split <;> exact h
    · exact h
  | releaseTrace k =>
    simp only [Machine.own, ownReleaseTrace]
    split
    · exact h
    · split <;> [exact h; exact h; exact h.of_ledger rfl]
  | fetchReports => exact h.fetchReports

/-! ### The management line (chapter 11) -/

theorem dispatch (h : s.Unfetched) (f : Frame) : (s.dispatch f).Unfetched := by
  unfold State.dispatch
  split
  · exact h.of_ledger rfl
  · exact h.of_ledger rfl
  · exact (h.own _).of_ledger rfl

theorem serve (h : s.Unfetched) : s.serve.Unfetched := by
  have hi (l : List Frame) : (s.setInbox l).Unfetched := h.of_ledger rfl
  unfold State.serve
  split
  · exact h.of_ledger rfl
  · split
    · exact (hi _).dispatch _
    · exact h

theorem serveIfIdle (h : s.Unfetched) : s.serveIfIdle.Unfetched := by
  unfold State.serveIfIdle
  split
  · exact h.serve
  · exact h

theorem offerFrame (h : s.Unfetched) (f : Frame) : (s.offerFrame f).Unfetched := by
  have hi (l : List Frame) : (s.setInbox l).Unfetched := h.of_ledger rfl
  have ho (x : Option Reply) : (s.setOverflow x).Unfetched := h.of_ledger rfl
  unfold State.offerFrame
  split
  · exact (hi _).serveIfIdle
  · split
    · exact (ho _).serveIfIdle
    · exact h

theorem hostRequest (h : s.Unfetched) (tag : Byte) (r : Request) : (s.hostRequest tag r).Unfetched := by
  unfold State.hostRequest
  split
  · exact h
  · exact h.offerFrame _

theorem setReceiver (h : s.Unfetched) (x : Receiver) : (s.setReceiver x).Unfetched := h.of_ledger rfl

theorem character (h : s.Unfetched) (c : Byte) (framingError : Bool) : (s.character c framingError).Unfetched := by
  unfold State.character
  split
  · split
    · exact h.setReceiver _
    · exact h
  · split <;> exact h.setReceiver _
  · split
    · exact h.setReceiver _
    · split
      · exact h.setReceiver _
      · unfold State.frameComplete
        dsimp only
        split
        · exact (h.setReceiver _).offerFrame _
        · exact h.setReceiver _

theorem replySent (h : s.Unfetched) : s.replySent.Unfetched := by
  have hi : (s.setSender .idle).Unfetched := h.of_ledger rfl
  unfold State.replySent
  split
  · exact h
  · exact hi.serve
  · exact h.restart _

/-! ### Every command -/

/-- A command before which nothing has been taken early keeps the queues sound. -/
theorem exec (h : s.Unfetched) (i : Instr) : ∃ t, exec i s = .next t ∧ t.Booked := by
  have hb := h.booked
  cases i with
  | energyPresent p | energyAbsent p => exact ⟨_, rfl, hb.arrive (hb.change p _ [])⟩
  | partnerWord p w => exact ⟨_, rfl, hb.arrive (hb.move p _)⟩
  | trainingConverged p m map polarity => exact ⟨_, rfl, hb.arrive (hb.move p _)⟩
  | trainingFailed p | signalLost p => exact ⟨_, rfl, hb.arrive (hb.move p _)⟩
  | marginSample p x => exact ⟨_, rfl, hb.arrive (hb.marginSample p _)⟩
  | exchangeTimerExpiry p | trainingTimerExpiry p => exact ⟨_, rfl, (hb.move p _).settle⟩
  | holdoffWaitEnd p | energyAbsenceTimerExpiry p => exact ⟨_, rfl, (hb.change p _ []).settle⟩
  | recheckTimerExpiry p => exact ⟨_, rfl, hb.recheckExpired p⟩
  | agingClockExpiry n => exact ⟨_, rfl, hb.agingExpired n⟩
  | busCheckPass e => exact ⟨_, rfl, hb.busPass e⟩
  | busCheckFail e => exact ⟨_, rfl, hb.busFail e⟩
  | listenAttemptEnd e c => exact ⟨_, rfl, hb.listenEnd e c⟩
  | listenWaitEnd e => exact ⟨_, rfl, hb.listenWaitEnd e⟩
  | launchCaptured e c => exact ⟨_, rfl, hb.launch e c⟩
  | analysisDone e => exact ⟨_, rfl, hb.analysisDone e⟩
  | releaseEnd e =>
    refine ⟨_, rfl, ?_⟩
    split
    · exact hb.releaseEnd e
    · exact hb
  | mrxCharacter c x =>
    refine ⟨_, rfl, ?_⟩
    split
    · exact hb
    · exact (h.character c x).booked
  | gapTimerExpiry => exact ⟨_, rfl, (h.setReceiver _).booked⟩
  | replySent => exact ⟨_, rfl, h.replySent.booked⟩
  | powerOn | resetRelease => exact ⟨_, rfl, (coldStart s _).booked⟩
  | resetAssert => exact ⟨_, rfl, (resetAssert s).booked⟩
  | _ => exact ⟨_, rfl, (h.hostRequest _ _).booked⟩

end State.Unfetched

/-! ### The command whose entries were taken early (R162) -/

/-- A good frame is as long as its LEN and its CRC say. -/
theorem length_of_goodFrame {n : Nat} {bytes : List Byte} {f : Frame} (h : goodFrame n bytes = some f) :
    bytes.length = n + 2 := by
  unfold goodFrame at h
  split at h
  · next hc =>
    have hl := congrArg List.length hc
    rw [List.length_drop] at hl
    simp only [bytes16, List.length_cons, List.length_nil] at hl
    omega
  · cases h

/-- The frame at hand is dispatched by the command that brings it, with the queues as they are. -/
theorem exec_of_frameAtHand {s : State} {i : Instr} {rest : List Instr} (hp : s.pending = i :: rest) {f : Frame}
    (h : s.frameAtHand = some f) :
    ∃ u : State, exec i (s.setPending rest) = .next (u.dispatch f) ∧ u.ledger = s.ledger := by
  unfold State.frameAtHand at h
  split at h
  · next l r g inbox hlow hpend hs ho hi =>
    obtain ⟨rfl, rfl⟩ := List.cons.inj (hp.symm.trans hpend)
    obtain rfl := Option.some.inj h
    refine ⟨((s.setPending rest).setSender .idle).setInbox inbox, congrArg Host.Outcome.next ?_, rfl⟩
    simp [State.replySent, State.serve, hs, ho, hi]
  · next c l hlow hpend hs ho hi =>
    obtain ⟨rfl, rfl⟩ := List.cons.inj (hp.symm.trans hpend)
    split at h
    · next n bytes hr =>
      have hlen := length_of_goodFrame h
      have hfree : ((s.setPending rest).setReceiver .hunt).lineFree := ⟨hlow, hs, ho, hi⟩
      refine ⟨(s.setPending rest).setReceiver .hunt, congrArg Host.Outcome.next ?_, rfl⟩
      have hc : (s.setPending rest).character c false = ((s.setPending rest).setReceiver .hunt).offerFrame f := by
        simp only [State.character, State.setPending_receiver, hr]
        rw [if_neg (by decide), if_neg (by omega), State.frameComplete, h]
      rw [← hfree.offerFrame f, ← hc]
      exact if_neg (by simp [hlow])
    · cases h
    · cases h
  · next c l _ hlow hpend hs ho hi =>
    obtain ⟨rfl, rfl⟩ := List.cons.inj (hp.symm.trans hpend)
    obtain ⟨⟨tag, r⟩, hreq, rfl⟩ := Option.map_eq_some_iff.mp h
    have hfree : (s.setPending rest).lineFree := ⟨hlow, hs, ho, hi⟩
    refine ⟨s.setPending rest, ?_, rfl⟩
    rw [exec_of_request hreq, State.hostRequest, if_neg (by simp [hlow]), hfree.offerFrame]
  · cases h

/-- The command whose entries were taken early answers with them and leaves the queues as they are. -/
theorem exec_of_fetch {s : State} {i : Instr} {rest : List Instr} (hp : s.pending = i :: rest) {x : Fetched}
    (hx : s.fetch = some x) (ha : s.fetchAtHand = true) :
    ∃ t, exec i (s.setPending rest) = .next t ∧ t.ledger = (s.setFetch none).ledger := by
  unfold State.fetchAtHand at ha
  split at ha
  · next f hf =>
    obtain ⟨u, hu, hl⟩ := exec_of_frameAtHand hp hf
    have hux : u.fetch = some x := by
      simp only [State.ledger, Prod.mk.injEq] at hl
      obtain ⟨-, -, -, -, h⟩ := hl
      exact h.trans hx
    refine ⟨_, hu, ?_⟩
    have hreq : parseRequest f.kind f.body = .request .fetchReports := by simpa using ha
    simp only [State.dispatch, hreq, own, ownFetchReports, hux]
    simp only [State.ledger, Prod.mk.injEq] at hl ⊢
    obtain ⟨h1, h2, h3, h4, -⟩ := hl
    exact ⟨h1, h2, h3, h4, rfl⟩
  · cases ha

/-- Settles O55: a FETCH_REPORTS taken early is answered by the next command (`exec_of_fetch`), and with none taken
every command keeps the queues sound (`State.Unfetched.exec`). -/
theorem stepKeepsQueueAndReports : Obligations.StepKeepsQueueAndReports := by
  intro s t hprof hq hr hrep hh hf hst
  have hb : s.Booked := ⟨hprof, hq, hr, s.reportsFit_iff.mpr ⟨hrep, hh⟩, hf⟩
  suffices ht : t.Booked ∧ (s.fetch ≠ none → t.fetch = none) by
    obtain ⟨⟨-, hq, hr, hfit, hf⟩, hn⟩ := ht
    obtain ⟨hrep, hh⟩ := t.reportsFit_iff.mp hfit
    exact ⟨hq, hr, hrep, hh, hf, hn⟩
  cases hx : s.fetch with
  | none =>
    refine ⟨?_, fun hne => absurd rfl hne⟩
    unfold step at hst
    split at hst
    · next i rest _ =>
      have hu : (s.setPending rest).Unfetched := State.Unfetched.of_ledger ⟨hb, hx⟩ rfl
      obtain ⟨u, hu, hbu⟩ := hu.exec i
      obtain rfl : u = t := by simpa [hu] using hst
      exact hbu
    · obtain rfl : s = t := by simpa using hst
      exact hb
  | some x =>
    obtain ⟨ha, -⟩ := hf x hx
    have hclear : (s.setFetch none).Unfetched :=
      ⟨⟨hprof, hq.of_eq rfl rfl, hr, hb.reports, State.fetchSound_of_none rfl⟩, rfl⟩
    suffices ht : t.Unfetched from ⟨ht.booked, fun _ => ht.fetch_eq⟩
    unfold step at hst
    split at hst
    · next i rest hp =>
      obtain ⟨u, hu, hl⟩ := exec_of_fetch hp hx ha
      obtain rfl : u = t := by simpa [hu] using hst
      exact hclear.of_ledger hl
    · next hp => simp [State.fetchAtHand_of_pending_nil hp] at ha

end Sys2Proof.Machine
end

section
/-! SUPPORT. The layouts of replies and of the bodies of GET_SUMMARY, GET_QUEUE and GET_RESULT (R77, R138, R140, R177,
R191, R195, R197, R201). -/

namespace Sys2Proof.Machine

/-! ### GET_SUMMARY (R191, R195) -/

/-- The flag of port p in a port map stands in the byte of its bank, at its place in the bank. -/
theorem getLsbD_portMap (f : PortId → Bool) (p : PortId) :
    ((portMap f).getD (p.val / 8) 0).getLsbD (p.val % 8) = f p := by
  have hb : (portMap f).getD (p.val / 8) 0 = flagByte ((bankPorts (bankOf p)).map f) := by
    have hlt : p.val / 8 < 6 := by omega
    have hget : ([0, 1, 2, 3, 4, 5] : List BankId)[p.val / 8]'hlt = bankOf p := by
      show (List.finRange 6)[p.val / 8]'(by simpa using hlt) = bankOf p
      simp [bankOf]
    rw [portMap, List.getD_eq_getElem _ _ (by simpa using hlt), List.getElem_map, hget]
  have hp : (bankPorts (bankOf p)).map f = (List.finRange 8).map fun i => f ⟨8 * (p.val / 8) + i.val, by omega⟩ := rfl
  have hlt : p.val % 8 < 8 := Nat.mod_lt _ (by decide)
  rw [hb, getLsbD_flagByte, hp, List.getD_eq_getElem _ _ (by simpa using hlt)]
  simp [hlt, Nat.div_add_mod]

theorem portMap_length (f : PortId → Bool) : (portMap f).length = 6 := rfl

/-- The three port maps, six bytes each, the engines and the two counts of GET_SUMMARY in this order. -/
theorem State.summaryBody_eq (s : State) :
    s.summaryBody =
      portMap (fun p => (s.port p).flags != 0) ++ (portMap (fun p => (s.port p).state == .up) ++
        (portMap (fun p => (s.port p).state == .stalled) ++ (allEngines.map (fun e => byteOf (s.engine e).state.code) ++
          [byteOf s.queue.length, byteOf s.freeCount]))) := by
  simp only [summaryBody, List.append_assoc]

/-- A byte of the first of two runs of six. -/
theorem getD_append_portMap (f : PortId → Bool) (l : List Byte) (p : PortId) :
    ((portMap f ++ l).getD (p.val / 8) 0).getLsbD (p.val % 8) = f p := by
  rw [List.getD_append _ _ _ _ (by rw [portMap_length]; omega), getLsbD_portMap]

/-- What follows a port map stands six bytes later. -/
theorem getD_portMap_append (f : PortId → Bool) (l : List Byte) (i : Nat) :
    (portMap f ++ l).getD (6 + i) 0 = l.getD i 0 := by
  rw [List.getD_append_right _ _ _ _ (by rw [portMap_length]; omega), portMap_length, Nat.add_sub_cancel_left]

/-- The three flags of a port in GET_SUMMARY. -/
theorem State.summaryBody_port (s : State) (p : PortId) :
    (s.summaryBody.getD (p.val / 8) 0).getLsbD (p.val % 8) = ((s.port p).flags != 0) ∧
      (s.summaryBody.getD (6 + p.val / 8) 0).getLsbD (p.val % 8) = ((s.port p).state == .up) ∧
      (s.summaryBody.getD (12 + p.val / 8) 0).getLsbD (p.val % 8) = ((s.port p).state == .stalled) := by
  rw [summaryBody_eq]
  refine ⟨getD_append_portMap _ _ p, ?_, ?_⟩
  · rw [getD_portMap_append, getD_append_portMap]
  · rw [show 12 + p.val / 8 = 6 + (6 + p.val / 8) by omega, getD_portMap_append, getD_portMap_append,
      getD_append_portMap]

/-- The state of an engine in GET_SUMMARY. -/
theorem State.summaryBody_engine (s : State) (e : EngineId) :
    s.summaryBody.getD (18 + e.val) 0 = byteOf (s.engine e).state.code := by
  rw [summaryBody_eq, show 18 + e.val = 6 + (6 + (6 + e.val)) by omega, getD_portMap_append, getD_portMap_append,
    getD_portMap_append]
  fin_cases e <;> rfl

/-- The two counts at the end of GET_SUMMARY. -/
theorem State.summaryBody_counts (s : State) :
    slice 22 2 s.summaryBody =
      [byteOf s.queue.length, byteOf (allSlots.countP (fun t => s.slot t == .free))] := by
  rw [List.countP_eq_length_filter]
  rfl

/-! ### GET_QUEUE (R77, R152, R197) -/

/-- A record is marked held where its port's entry is held for its number (R152). -/
theorem State.holdMark_iff {s : State} (h : s.reportsSound) (r : TestRecord) :
    s.holdMark r = true ↔ ∃ x, Entry.port x ∈ s.reports ∧ x.port = r.port ∧ x.hold = some r.number := by
  obtain ⟨hn, -⟩ := h
  unfold holdMark
  split
  · next x hx =>
    obtain ⟨hm, hp⟩ := (entryOf_eq_some_iff hn).mp hx
    rw [beq_iff_eq]
    constructor
    · exact fun hh => ⟨x, hm, hp, hh⟩
    · rintro ⟨y, hy, hyp, hh⟩
      obtain rfl : x = y := by simpa [hx] using (entryOf_eq_some_iff hn).mpr ⟨hy, hyp⟩
      exact hh
  · next hx =>
    constructor
    · exact nofun
    · rintro ⟨y, hy, hyp, -⟩
      simpa [hx] using (entryOf_eq_some_iff hn).mpr ⟨hy, hyp⟩

/-- The last three bytes of a queue record: its state, its marks and its engine. -/
theorem recordBytes_eq (mark : Bool) (r : TestRecord) :
    recordBytes mark r =
      bytesOf16 r.number ++
        [byteOf (r.port.val + 1), byteOf r.origin.code, byteOf r.reach.code, byteOf r.avg, byteOfBool r.capture,
         byteOf r.priority, byteOfBool r.allowDrop] ++
        (match r.state with
         | .pending => [0, if mark then 2 else 0, 0]
         | .running e => [1, if mark then 3 else 1, byteOf (e.val + 1)]) := by
  unfold recordBytes
  rw [flagByte_two]
  cases r.state with
  | pending => cases mark <;> rfl
  | running e =>
    have hmark : byteOfBool true + (if mark then 2 else 0) = if mark then 3#8 else 1 := by
      revert mark
      decide
    simp only [RecordState.engine, RecordState.code, Option.isSome_some, hmark]
    rfl

/-! ### GET_RESULT (R138, R140, R201) -/

/-- The fields of GET_RESULT: the head and the four pair records. -/
def resultFields (r : ResultRecord) (current : Bool) : List (List Byte) :=
  [[byteOf (r.port.val + 1)] ++ bytesOf16 r.number ++ [byteOf r.origin.code, byteOf r.reach.code, byteOf r.avg] ++
      bytesOf16 r.velocity ++ [byteOf r.outcome.code, byteOf r.disposition.code] ++
      (match r.slot with
       | some t => [1, byteOf (t.val + 1)]
       | none => [0, 0]) ++ [if current then 1 else 0],
   pairBytes r.pairs.a, pairBytes r.pairs.b, pairBytes r.pairs.c, pairBytes r.pairs.d]

theorem resultBody_eq_flatten (r : ResultRecord) (current : Bool) :
    resultBody r current = (resultFields r current).flatten := by
  have hflag : flagByte [true] = 1 := by decide
  unfold resultBody resultFields
  cases r.slot <;>
    simp only [List.flatten_cons, List.flatten_nil, List.append_nil, List.append_assoc, List.cons_append,
      List.nil_append, Option.isSome_some, hflag] <;> rfl

/-- A pair record's bytes, its optional items by their presence (R196). -/
theorem pairBytes_eq (x : PairRecord) :
    pairBytes x =
      [byteOf x.pair.code, byteOf x.cls.code,
       (if x.measured.isSome then 1 else 0) + (if x.echo.isSome then 2 else 0) + (if x.partner.isSome then 4 else 0)] ++
        (match x.measured with
         | some m => [byteOf m.reach.code, byteOf m.attempts] ++ bytesOf16 m.spread
         | none => [0, 0, 0, 0]) ++
        (match x.echo with
         | some g => bytesOf16 g.i0 ++ bytesOfInt g.peak ++ bytesOf16 g.distance
         | none => [0, 0, 0, 0, 0, 0]) ++
        [match x.partner with
         | some z => byteOf z.code
         | none => 0] := by
  have hflags (a b c : Bool) :
      flagByte [a, b, c] = (if a then 1 else 0) + (if b then 2 else 0) + (if c then 4 else 0) := by
    revert a b c
    decide
  rw [pairBytes, hflags]
  cases x.measured <;> cases x.echo <;> cases x.partner <;> rfl

theorem pairBytes_length (x : PairRecord) : (pairBytes x).length = 14 := by
  rw [pairBytes]
  cases x.measured <;> cases x.echo <;> rfl

theorem resultFields_lengths (r : ResultRecord) (current : Bool) :
    (resultFields r current).map List.length = [13, 14, 14, 14, 14] := by
  simp only [resultFields, List.map_cons, List.map_nil, pairBytes_length]
  cases r.slot <;> rfl

/-- Each field of GET_RESULT in its place. -/
theorem resultBody_slice (r : ResultRecord) (current : Bool) (i : Fin 5) :
    slice (([13, 14, 14, 14, 14].take i).sum)
        ((([13, 14, 14, 14, 14].take (i + 1)).sum) - (([13, 14, 14, 14, 14].take i).sum)) (resultBody r current) =
      (resultFields r current)[i.val]'i.isLt := by
  rw [resultBody_eq_flatten]
  exact slice_flatten (resultFields_lengths r current) i.val i.isLt

theorem resultBody_pair (r : ResultRecord) (current : Bool) (x : Pair) :
    slice (13 + 14 * x.code) 14 (resultBody r current) = pairBytes (quadGet r.pairs x) := by
  cases x with
  | a => exact resultBody_slice r current 1
  | b => exact resultBody_slice r current 2
  | c => exact resultBody_slice r current 3
  | d => exact resultBody_slice r current 4

/-- Settles O8: the characters of a reply by its status, each body by the lemmas of its fields. -/
theorem replyLayouts : Obligations.ReplyLayouts := by
  refine ⟨fun x covered hc => ?_, fun s => ⟨fun h r => State.holdMark_iff h r,
    ⟨rfl, fun p => ?_, s.summaryBody_engine, s.summaryBody_counts⟩, fun n _ => ?_,
    fun r current => ⟨?_, ?_, fun x => ?_⟩⟩⟩
  · have hcov : x.covered = covered := by
      rw [hc, Reply.covered]
      cases x.status <;> rfl
    rw [Reply.bytes, hcov]
    rfl
  · obtain ⟨hflags, hup, hstalled⟩ := s.summaryBody_port p
    rw [hflags, hup, hstalled]
    exact ⟨bne_iff_ne, beq_iff_eq, beq_iff_eq⟩
  · simp only [State.queueBody, List.length_take, List.length_drop]
    exact congrArg (_ ++ List.flatMap · _) (funext fun r => recordBytes_eq (s.holdMark r) r)
  · rw [resultBody_eq_flatten, List.length_flatten, resultFields_lengths]
    rfl
  · exact resultBody_slice r current 0
  · exact (resultBody_pair r current x).trans (pairBytes_eq _)

end Sys2Proof.Machine
end
section
/-! SUPPORT. Every command walked through once: a property of ports in TEST, records, banks, engines and slots that the
part's shared operations keep is kept by every command, and no command leaves a grant pass due (R58, R84). -/

namespace Sys2Proof.Machine

/-! ### Moves of a port leave TEST alone (R4, R88) -/

namespace Port

/-- The record neither enters nor leaves TEST. -/
def SameTest (q q' : Port) : Prop := q'.state = .test ↔ q.state = .test

theorem SameTest.of_state {q q' : Port} (h : q'.state = q.state) : q.SameTest q' := by rw [SameTest, h]

theorem SameTest.of_ne {q q' : Port} (h : q.state ≠ .test) (h' : q'.state ≠ .test) : q.SameTest q' :=
  ⟨fun e => absurd e h', fun e => absurd e h⟩

section
variable {q : Port}

theorem goFromListen_state_ne (p : PortId) (r : Profile) (q : Port) : (q.goFromListen p r).state ≠ .test := by
  unfold goFromListen
  split <;> nofun

theorem enterListen_state_ne (p : PortId) (r : Profile) (q : Port) : (q.enterListen p r).state ≠ .test := by
  unfold enterListen
  split
  · exact goFromListen_state_ne p r _
  · nofun

theorem resolve_state_ne (p : PortId) (r : Profile) (q : Port) : (q.resolve p r).port.state ≠ .test := by
  unfold resolve
  split
  · split
    · nofun
    · split
      · nofun
      · nofun
      · unfold tied
        dsimp only
        split <;> nofun
  · nofun

theorem acceptPage_state_ne (h : q.state ≠ .test) (p : PortId) (r : Profile) (w : PageWord) :
    (q.acceptPage p r w).port.state ≠ .test := by
  unfold acceptPage
  dsimp only
  split
  · exact resolve_state_ne p r _
  · rw [takeAck_eq, takePage_eq]
    exact (afterAck_state w q).symm ▸ h

theorem enterExtend_state (q : Port) : q.enterExtend.state = .extend := by
  rw [enterExtend_eq]
  rfl

theorem accept_state_ne (h : q.state ≠ .test) (p : PortId) (r : Profile) (w : PartnerWord) :
    (q.accept p r w).port.state ≠ .test := by
  unfold accept
  split
  · unfold acceptOffer completeOffer
    dsimp only
    split
    · split
      · simp [quiet, enterExtend_state]
      · exact resolve_state_ne p r _
    · exact h
  · unfold pageInOffer
    split
    · exact h
    · split
      · exact acceptPage_state_ne (by simp [enterExtend_state]) p r _
      · exact resolve_state_ne p r _
  · nofun
  · exact acceptPage_state_ne h p r _
  · exact h

theorem trainingFailure_state_ne (r : Profile) (c : Speed) (q : Port) :
    (q.trainingFailure r c).port.state ≠ .test := by
  unfold trainingFailure
  dsimp only
  split
  · split <;> nofun
  · nofun

theorem watchFor_state (x : CondWord) (mask : FieldSet) (q : Port) : (q.watchFor x mask).state = q.state := by
  unfold watchFor rearm
  dsimp only
  split <;> rfl

namespace SameTest

theorem hear (p : PortId) (r : Profile) (w : PartnerWord) (q : Port) : q.SameTest (q.hear p r w).port := by
  unfold Port.hear
  split
  · next hs =>
    have ht : q.state ≠ .test := by rcases hs with e | e <;> simp [e]
    split
    · split
      · split
        · split
          · exact .of_ne ht (accept_state_ne (q := { q with candidate := some (w, 3) }) ht p r w)
          · exact .of_state rfl
        · exact .of_state rfl
      · exact .of_state rfl
    · exact .of_state rfl
  · exact .of_state rfl

theorem energyOn (p : PortId) (r : Profile) (q : Port) : q.SameTest (q.energyOn p r) := by
  unfold Port.energyOn
  dsimp only
  split
  case h_1 hs => exact .of_ne (by simp [hs]) (goFromListen_state_ne p r _)
  all_goals exact .of_state rfl

theorem energyOff (p : PortId) (r : Profile) (q : Port) : q.SameTest (q.energyOff p r) := by
  unfold Port.energyOff
  dsimp only
  split
  case h_3 hs | h_4 hs | h_5 hs => exact .of_ne (by simp [hs]) (enterListen_state_ne p r _)
  all_goals exact .of_state rfl

theorem converged (m : Nat) (map : PairMap) (polarity : BitVec 4) (q : Port) :
    q.SameTest (q.converged m map polarity).port := by
  rcases converged_cases m map polarity q with h | ⟨hs, k, h⟩ <;> rw [h]
  · exact .of_state rfl
  · exact .of_ne (by simp [hs]) nofun

theorem failTraining (r : Profile) (q : Port) : q.SameTest (q.failTraining r).port := by
  unfold Port.failTraining
  split
  · next hs _ => exact .of_ne (by simp [hs]) (trainingFailure_state_ne r _ q)
  · exact .of_state rfl

theorem trainingExpired (r : Profile) (q : Port) : q.SameTest (q.trainingExpired r).port := by
  unfold Port.trainingExpired
  split
  · exact failTraining r q
  · exact .of_state rfl

theorem marginDrop (hu : q.state = .up) (r : Profile) (c : Speed) : q.SameTest (q.marginDrop r c).port :=
  .of_ne (by simp [hu]) (trainingFailure_state_ne r c (q.recordDown .margin))

theorem loseSignal (r : Profile) (q : Port) : q.SameTest (q.loseSignal r).port := by
  unfold Port.loseSignal
  split
  · next hs => exact .of_ne (by simp [hs]) nofun
  · exact .of_state rfl

theorem exchangeExpired (r : Profile) (q : Port) : q.SameTest (q.exchangeExpired r).port := by
  unfold Port.exchangeExpired
  split
  · next hs => exact .of_ne (by rcases hs.2 with e | e <;> simp [e]) nofun
  · exact .of_state rfl

theorem holdoffEnded (p : PortId) (r : Profile) (q : Port) : q.SameTest (q.holdoffEnded p r) := by
  unfold Port.holdoffEnded
  split
  · next hs => exact .of_ne (by simp [hs.2]) (enterListen_state_ne p r q)
  · exact .of_state rfl

theorem absenceExpired (p : PortId) (r : Profile) (q : Port) : q.SameTest (q.absenceExpired p r) := by
  unfold Port.absenceExpired
  split
  · split
    case h_2 hs => exact .of_ne (by simp [hs]) (enterListen_state_ne p r q.clearMemory)
    all_goals exact .of_state rfl
  · exact .of_state rfl

theorem enable (p : PortId) (r : Profile) (q : Port) : q.SameTest (q.enable p r) := by
  unfold Port.enable
  split
  · next hs => exact .of_ne (by simp [hs]) (enterListen_state_ne p r _)
  · exact .of_state rfl

theorem disable (q : Port) : q.SameTest q.disable.port := by
  unfold Port.disable
  split
  case h_1 | h_2 => exact .of_state rfl
  all_goals
    next hs => exact .of_ne (by simp [hs]) nofun

theorem restarted (r : Profile) (q : Port) : q.SameTest (q.restarted r).port := by
  unfold Port.restarted
  dsimp only
  split
  case h_1 | h_2 => exact .of_state rfl
  all_goals
    next hs => exact .of_ne (fun e => by simp [Port.clearMemory, e] at hs) nofun

theorem afterWrite (old new : Profile) (q : Port) : q.SameTest (q.afterWrite old new) := by
  have hc : (if setChanged old new then q.clearMemory else q).state = q.state := by split <;> rfl
  unfold Port.afterWrite
  dsimp only
  generalize (if setChanged old new then q.clearMemory else q) = x at hc
  split
  · split
    case h_1 hs => exact .of_ne (by simp [← hc, hs]) nofun
    all_goals exact .of_state hc
  · exact .of_state hc

end SameTest
end
end Port

/-! ### Ends of tests at their engine (R94, R95) -/

namespace State

/-- A test's end leaves every other engine. -/
theorem endTest_engine_ne (s : State) {d e : EngineId} (h : d ≠ e) (x : TestOutcome) (q : Quad PairRecord) :
    (s.endTest e x q).engine d = s.engine d := by
  unfold endTest
  dsimp only
  split
  · exact setEngine_engine_ne _ _ _ _ h
  · split
    · rw [setEngine_engine_ne _ _ _ _ h]
      simp [engine]
    · rw [setEngine_engine_ne _ _ _ _ h]
      simp [engine]

/-- A test's end takes its engine to RELEASE. -/
theorem endTest_engine_self (s : State) (e : EngineId) (x : TestOutcome) (q : Quad PairRecord) :
    (s.endTest e x q).engine e =
      releasing (s.engine e) (x == .complete || x == .partnerActive) (x == .busFault) := by
  unfold endTest
  dsimp only
  split
  · exact setEngine_engine_self _ _ _
  · split <;> exact setEngine_engine_self _ _ _

theorem abort_engine_ne (s : State) {d e : EngineId} (h : d ≠ e) : (s.abort e).engine d = s.engine d := by
  unfold abort
  split
  · exact s.endTest_engine_ne h _ _
  · rfl

/-- An engine just aborted does not measure. -/
theorem abort_measuring_self (s : State) (e : EngineId) : ((s.abort e).engine e).state.measuring = false := by
  unfold abort
  split
  · rw [endTest_engine_self]
    rfl
  · next h => simpa using h

/-- An abort starts no measurement. -/
theorem abort_measuring {s : State} {d : EngineId} (h : (s.engine d).state.measuring = false) (e : EngineId) :
    ((s.abort e).engine d).state.measuring = false := by
  by_cases hd : d = e
  · rw [hd]
    exact s.abort_measuring_self e
  · rwa [s.abort_engine_ne hd]

/-- After the aborts of a warm restart no engine measures (R81, R101). -/
theorem abortAll_measuring (s : State) : ∀ e, (s.abortAll.engine e).state.measuring = false := by
  show ∀ e, (((((s.abort 0).abort 1).abort 2).abort 3).engine e).state.measuring = false
  rw [Fin.forall_fin_succ, Fin.forall_fin_succ, Fin.forall_fin_succ, Fin.forall_fin_one]
  exact ⟨abort_measuring (abort_measuring (abort_measuring (abort_measuring_self s 0) 1) 2) 3,
    abort_measuring (abort_measuring (abort_measuring_self _ 1) 2) 3,
    abort_measuring (abort_measuring_self _ 2) 3, abort_measuring_self _ 3⟩

/-- The cause's end leaves no pass due. -/
theorem settle_passDue (s : State) : s.settle.passDue = false := by
  unfold settle
  split
  · simp
  · next h => simpa using h

/-! ### What is kept -/

/-- What tests and the arbiter depend on. -/
def testBlocks (s : State) :
    Vector Port 48 × List TestRecord × Nat × Vector (Option BankUse) 6 × Vector Engine 4 × Vector Slot 8 × Bool :=
  (s.ports, s.queue, s.nextNumber, s.banks, s.engines, s.slots, s.passDue)

end State

/-- A property that flagged events and changes of a port outside TEST keep (R45, R58): it is about the blocks of tests,
and writes of a port's record and submissions keep it. -/
structure ChangeInvariant (Q : State → Prop) : Prop where
  congr : ∀ {s t : State}, Q s → t.testBlocks = s.testBlocks → Q t
  modPort : ∀ {s : State} {p : PortId} {f : Port → Port}, Q s → (s.port p).SameTest (f (s.port p)) → Q (s.modPort p f)
  submit : ∀ {s : State}, Q s → ∀ p k, Q (s.submit p k)

namespace ChangeInvariant

variable {Q : State → Prop} (hQ : ChangeInvariant Q) {s : State}
include hQ

theorem flagAndReport (h : Q s) (p : PortId) (ev : FlagEvent) : Q (s.flagAndReport p ev) := by
  have hm : Q (s.modPort p fun q => q.setFlag ev.kind) := hQ.modPort h (.of_state rfl)
  unfold State.flagAndReport
  dsimp only
  split
  · exact hQ.congr hm rfl
  · exact hm

theorem flagEvent (h : Q s) (p : PortId) (ev : FlagEvent) : Q (s.flagEvent p ev) := by
  unfold State.flagEvent
  dsimp only
  split
  · exact hQ.submit (hQ.flagAndReport h p ev) p _
  · exact hQ.flagAndReport h p ev

theorem flagEvents (h : Q s) (p : PortId) (evs : List FlagEvent) : Q (s.flagEvents p evs) := by
  induction evs generalizing s with
  | nil => exact h
  | cons ev rest ih => exact ih (hQ.flagEvent h p ev)

theorem offerWord (h : Q s) (p : PortId) (old : CondWord) : Q (s.offerWord p old) := by
  have hc : Q (s.setPort p (s.port p).compare) := hQ.modPort (f := Port.compare) h (.of_state rfl)
  unfold State.offerWord
  dsimp only
  split
  · exact h
  · split
    · exact hQ.flagEvent hc p _
    · exact hc

/-- What follows the write of a change: its events and the offer of the new word. -/
theorem change_of_modPort {p : PortId} {f : Port → Port} (h : Q (s.modPort p f)) (evs : List FlagEvent) :
    Q (s.change p f evs) := hQ.offerWord (hQ.flagEvents h p evs) p _

theorem change (h : Q s) {p : PortId} {f : Port → Port} (hf : (s.port p).SameTest (f (s.port p)))
    (evs : List FlagEvent) : Q (s.change p f evs) := hQ.change_of_modPort (hQ.modPort h hf) evs

end ChangeInvariant

/-- A property that every shared operation of the part keeps, each from where a command calls it. -/
structure CommandInvariant (Q : State → Prop) : Prop extends ChangeInvariant Q where
  append : ∀ {s : State} {r : TestRecord}, Q s → s.recordOf r.port = none → r.number = s.takeNumber →
    r.state = .pending → Q (s.append r)
  complete : ∀ {s : State} {r : TestRecord}, Q s → r ∈ s.queue → r.state = .pending → ∀ x q, Q (s.completeRecord r x q)
  age : ∀ {s : State}, Q s → ∀ n, Q (s.setQueue (ageRecord n s.queue))
  grantPass : ∀ {s : State}, Q s → Q s.grantPass
  settle : ∀ {s : State}, Q s → Q s.settle
  measure : ∀ {s : State} {e : EngineId} {x : Engine}, Q s → (s.engine e).state.measuring = true →
    x.state.measuring = true → x.job = (s.engine e).job → (x.state = .connect ∨ x.meas.isSome) → Q (s.setEngine e x)
  endTest : ∀ {s : State} {e : EngineId}, Q s → (s.engine e).state.measuring = true → ∀ x q, Q (s.endTest e x q)
  restore : ∀ {s : State} {e : EngineId}, Q s → (s.engine e).state = .outOfService →
    Q (s.setEngine e { s.engine e with state := .idle }).grantPass
  releaseEnd : ∀ {s : State} {e : EngineId}, Q s → (s.engine e).state = .release → Q (s.releaseEnd e)
  freeHeld : ∀ {s : State} {k : SlotId} {x : TraceHeader} {c : Quad (List Int)}, Q s → s.slot k = .held x c →
    Q (s.setSlot k .free)
  coldStart : ∀ s c, Q (State.coldStart s c)
  warmBlocks : ∀ {s : State}, Q s → (∀ e, (s.engine e).state.measuring = false) → Q s.warmBlocks

/-- What a command that begins in `s` leaves: the property, and no grant pass due where none was. -/
structure Leaves (Q : State → Prop) (s t : State) : Prop where
  keeps : Q t
  due : s.passDue = false → t.passDue = false

namespace CommandInvariant

variable {Q : State → Prop} (hQ : CommandInvariant Q) {s t : State}
include hQ

/-! ### Blocks and causes -/

theorem leaves_congr {u : State} (h : Leaves Q s t) (e : u.testBlocks = t.testBlocks) : Leaves Q s u := by
  refine ⟨hQ.congr h.keeps e, fun hd => ?_⟩
  simp only [State.testBlocks, Prod.mk.injEq] at e
  obtain ⟨-, -, -, -, -, -, e⟩ := e
  rw [e, h.due hd]

/-- A cause ends in its pass. -/
theorem leaves_settle (h : Q t) : Leaves Q s t.settle := ⟨hQ.settle h, fun _ => t.settle_passDue⟩

theorem leaves_modPort (h : Leaves Q s t) (p : PortId) {f : Port → Port} (hf : ∀ q, (f q).state = q.state) :
    Leaves Q s (t.modPort p f) := ⟨hQ.modPort h.keeps (.of_state (hf _)), h.due⟩

theorem leaves_setEngine (h : Leaves Q s t) {e : EngineId} {x : Engine} (hm : (t.engine e).state.measuring = true)
    (hx : x.state.measuring = true) (hj : x.job = (t.engine e).job) (hs : x.state = .connect ∨ x.meas.isSome) :
    Leaves Q s (t.setEngine e x) := ⟨hQ.measure h.keeps hm hx hj hs, h.due⟩

theorem leaves_endTest (h : Leaves Q s t) {e : EngineId} (hm : (t.engine e).state.measuring = true) (x : TestOutcome)
    (q : Quad PairRecord) : Leaves Q s (t.endTest e x q) :=
  ⟨hQ.endTest h.keeps hm x q, fun hd => by simpa using h.due hd⟩

theorem abort (h : Q t) (e : EngineId) : Q (t.abort e) := by
  unfold State.abort
  split
  · next hm => exact hQ.endTest h hm _ _
  · exact h

theorem leaves_abort (h : Leaves Q s t) (e : EngineId) : Leaves Q s (t.abort e) :=
  ⟨hQ.abort h.keeps e, fun hd => by simpa using h.due hd⟩

/-! ### Engine events (chapter 6) -/

theorem leaves_finishPair (h : Leaves Q s t) {e : EngineId} (hm : (t.engine e).state.measuring = true)
    (hs : (t.engine e).meas.isSome) (x : PairRecord) : Leaves Q s (t.finishPair e x) := by
  unfold State.finishPair
  dsimp only
  split
  · exact hQ.leaves_setEngine h hm rfl rfl (.inr rfl)
  · refine hQ.leaves_endTest (hQ.leaves_setEngine h hm ?_ ?_ (.inr ?_)) ?_ _ _
    · exact hm
    · rfl
    · exact hs
    · rwa [State.setEngine_engine_self]

theorem leaves_busPass (h : Leaves Q s t) (e : EngineId) : Leaves Q s (t.busPass e) := by
  unfold State.busPass
  dsimp only
  split
  · next hc => exact hQ.leaves_setEngine h (by rw [hc]; rfl) rfl rfl (.inr rfl)
  · exact h

theorem leaves_busFail (h : Leaves Q s t) (e : EngineId) : Leaves Q s (t.busFail e) := by
  unfold State.busFail
  split
  · next hc => exact hQ.leaves_endTest h (by rw [hc]; rfl) _ _
  · exact h

/-- New measurement state, and the pair that it finishes. -/
theorem leaves_setEngine_finishPair (h : Leaves Q s t) {e : EngineId} {x : Engine}
    (hm : (t.engine e).state.measuring = true) (hx : x.state.measuring = true) (hj : x.job = (t.engine e).job)
    (hs : x.meas.isSome) (y : PairRecord) : Leaves Q s ((t.setEngine e x).finishPair e y) :=
  hQ.leaves_finishPair (hQ.leaves_setEngine h hm hx hj (.inr hs)) (by rwa [State.setEngine_engine_self])
    (by rwa [State.setEngine_engine_self]) y

theorem leaves_listenEnd (h : Leaves Q s t) (e : EngineId) (c : Quad (List Sample)) : Leaves Q s (t.listenEnd e c) := by
  unfold State.listenEnd
  dsimp only
  split
  · next hc _ _ =>
    have hm : (t.engine e).state.measuring = true := by rw [hc]; rfl
    split
    · exact h
    · split
      · exact hQ.leaves_setEngine h hm rfl rfl (.inr rfl)
      · split
        · exact hQ.leaves_setEngine h hm hm rfl (.inr rfl)
        · exact hQ.leaves_setEngine_finishPair h hm (by exact hm) (by rfl) (by rfl) _
  · exact h

theorem leaves_listenWaitEnd (h : Leaves Q s t) (e : EngineId) : Leaves Q s (t.listenWaitEnd e) := by
  unfold State.listenWaitEnd
  dsimp only
  split
  · next hc _ =>
    have hm : (t.engine e).state.measuring = true := by rw [hc]; rfl
    split
    · exact hQ.leaves_setEngine h hm hm rfl (.inr rfl)
    · exact h
  · exact h

theorem leaves_launch (h : Leaves Q s t) (e : EngineId) (c : Quad (List Sample)) : Leaves Q s (t.launch e c) := by
  unfold State.launch
  dsimp only
  split
  · next hc _ _ =>
    refine hQ.leaves_setEngine h (by rw [hc]; rfl) ?_ rfl (.inr rfl)
    split <;> rfl
  · exact h

theorem leaves_analysisDone (h : Leaves Q s t) (e : EngineId) : Leaves Q s (t.analysisDone e) := by
  unfold State.analysisDone
  dsimp only
  split
  · next hc _ _ =>
    have hm : (t.engine e).state.measuring = true := by rw [hc]; rfl
    split
    · exact hQ.leaves_setEngine h hm rfl rfl (.inr rfl)
    · exact hQ.leaves_setEngine_finishPair h hm (by exact hm) (by rfl) (by rfl) _
  · exact h

theorem leaves_releaseEnd (h : Leaves Q s t) {e : EngineId} (he : (t.engine e).state = .release) :
    Leaves Q s (t.releaseEnd e) := by
  refine ⟨hQ.releaseEnd h.keeps he, fun _ => ?_⟩
  simp [State.releaseEnd]

/-! ### Arrivals and timers (chapters 1 to 4) -/

theorem move (h : Q t) {p : PortId} {m : Moved} (hm : (t.port p).SameTest m.port) : Q (t.move p m) :=
  hQ.change (f := fun _ => m.port) h hm _

theorem leaves_arrive (h : Leaves Q s t) {f : State → State} (hf : Q (f t)) : Leaves Q s (t.arrive f) := by
  unfold State.arrive
  split
  · exact h
  · exact hQ.leaves_settle hf

theorem marginSample (h : Q t) (p : PortId) (x : Nat) : Q (t.marginSample p x) := by
  unfold State.marginSample
  split
  · next hu =>
    have hs : Q (t.sampleChange p x) := hQ.move h (.of_state rfl)
    have hup : ((t.sampleChange p x).port p).state = .up := (State.change_noted t p _ _).state.trans hu
    unfold State.dropChange
    split
    · split
      · exact hQ.move hs (.marginDrop hup _ _)
      · exact hs
    · exact hs
  · exact h

theorem leaves_recheckExpired (h : Leaves Q s t) (p : PortId) : Leaves Q s (t.recheckExpired p) := by
  unfold State.recheckExpired
  split
  · exact h
  · refine hQ.leaves_settle ?_
    split
    · exact hQ.congr h.keeps rfl
    · exact hQ.congr (hQ.submit h.keeps p none) rfl

theorem leaves_agingExpired (h : Leaves Q s t) (n : Nat) : Leaves Q s (t.agingExpired n) := by
  unfold State.agingExpired
  split
  · split
    · exact ⟨hQ.grantPass (hQ.age h.keeps n), fun hd => by simpa using h.due hd⟩
    · exact h
  · exact h

/-! ### Requests (R185) -/

/-- A request that is a cause of its own, with no command in sight. -/
theorem leaves_apart {f : State → State} (hf : Leaves Q s (f (t.setPending []))) : Leaves Q s (t.apart f) :=
  hQ.leaves_congr hf rfl

theorem leaves_setAdmin (h : Leaves Q s t) (p : PortId) (a : Bool) : Leaves Q s (t.setAdmin p a) := by
  have hp : Q (t.setPending []) := hQ.congr h.keeps rfl
  refine hQ.leaves_apart ?_
  split
  · exact hQ.leaves_settle (hQ.change hp (.enable p _ _) [])
  · exact hQ.leaves_settle (hQ.change (f := fun q => q.disable.port) hp (.disable _) _)

theorem leaves_portRestart (h : Leaves Q s t) (p : PortId) : Leaves Q s (t.portRestart p) := by
  have hp : Q (t.setPending []) := hQ.congr h.keeps rfl
  have hc := hQ.move hp (p := p) (.restarted ((t.setPending []).profile p) _)
  refine hQ.leaves_apart ?_
  dsimp only
  refine hQ.leaves_settle ?_
  split
  · unfold State.abortPort
    split
    · exact hQ.abort hc _
    · exact hc
  · exact hc

theorem writes (h : Q t) (r : Profile) (ps : List PortId) : Q (ps.foldl (fun s p => s.writeProfile r p) t) := by
  induction ps generalizing t with
  | nil => exact h
  | cons p rest ih =>
    refine ih ?_
    have hp : Q (t.setProfile p r) := hQ.congr h rfl
    have hc := hQ.change hp (p := p) (f := Port.afterWrite (t.profile p) r) (.afterWrite _ r _) []
    unfold State.writeProfile
    dsimp only
    split
    · exact hQ.congr hc rfl
    · exact hc

theorem leaves_setProfile (h : Leaves Q s t) (f l : Byte) (x : RawProfile) :
    Leaves Q s (ownSetProfile f l x t).1 := by
  unfold ownSetProfile
  split
  · split
    · exact h
    · split
      · have hp : Q (t.setPending []) := hQ.congr h.keeps rfl
        refine hQ.leaves_apart (f := fun s => State.settle _) (hQ.leaves_settle ?_)
        exact hQ.writes hp _ _
      · exact h
  · exact h

theorem leaves_startTest (h : Leaves Q s t) (p : PortId) (x : Reach) (avg y : Nat) (c d : Bool) :
    Leaves Q s (t.startTest p x avg y c d).1 := by
  unfold State.startTest
  split
  · exact h
  · next hnone =>
    split
    · exact h
    · split
      · exact hQ.leaves_settle (hQ.append (r := requested p t.takeNumber x avg y c d) h.keeps hnone rfl rfl)
      · exact h

theorem leaves_cancelFound (h : Leaves Q s t) {r : Option TestRecord} (hr : ∀ x, r = some x → x ∈ t.queue) :
    Leaves Q s (t.cancelFound r).1 := by
  cases r with
  | none => exact h
  | some r =>
    simp only [State.cancelFound, State.cancel]
    split
    · next hp => exact ⟨hQ.complete h.keeps (hr r rfl) hp _ _, fun hd => by simpa using h.due hd⟩
    · exact hQ.leaves_abort h _

theorem leaves_cancelTest (h : Leaves Q s t) (x : Byte) (v : Word) : Leaves Q s (ownCancelTest x v t).1 := by
  unfold ownCancelTest
  split
  · split
    · exact h
    · exact hQ.leaves_cancelFound h fun _ hr => (State.recordNumbered_mem hr).1
  · split
    · exact hQ.leaves_cancelFound h fun _ hr => (State.recordOf_mem hr).1
    · exact h
  · exact h

theorem leaves_restoreEngine (h : Leaves Q s t) (e : EngineId) : Leaves Q s (t.restoreEngine e) := by
  unfold State.restoreEngine
  split
  · next ho => exact ⟨hQ.restore h.keeps ho, fun hd => by simpa using h.due hd⟩
  · exact h

omit hQ in
theorem leaves_withPort (h : Leaves Q s t) (b : Byte) {k : PortId → State × Answer} (hk : ∀ p, Leaves Q s (k p).1) :
    Leaves Q s (withPort b t k).1 := by
  unfold withPort
  split
  · exact hk _
  · exact h

/-- Every owner of a request. -/
theorem leaves_own (h : Leaves Q s t) (r : Request) : Leaves Q s (own r t).1 := by
  cases r with
  | identify | getQueue | getSummary => exact h
  | restart m => simp only [own, ownRestart]; split <;> exact h
  | setProfile f l x => exact hQ.leaves_setProfile h f l x
  | getProfile p | getPort p | getPartnerPages p => exact leaves_withPort h p fun _ => h
  | setAdmin p a => exact leaves_withPort h p fun q => by split <;> [exact h; exact hQ.leaves_setAdmin h q _]
  | portRestart p => exact leaves_withPort h p fun q => hQ.leaves_portRestart h q
  | clearFlags p k | clearCounters p =>
    refine leaves_withPort h p fun q => ?_
    dsimp only
    exact hQ.leaves_modPort h q fun _ => rfl
  | setWatch p x m =>
    refine leaves_withPort h p fun q => ?_
    split
    · exact h
    · exact hQ.leaves_modPort h q (Port.watchFor_state _ _)
  | loadPages p gs =>
    refine leaves_withPort h p fun q => ?_
    split
    · exact h
    · split
      · exact h
      · dsimp only
        exact hQ.leaves_modPort h q fun _ => rfl
  | clearPages p =>
    refine leaves_withPort h p fun q => ?_
    split
    · exact h
    · dsimp only
      exact hQ.leaves_modPort h q fun _ => rfl
  | startTest p x a c y d =>
    exact leaves_withPort h p fun q => by split <;> [exact hQ.leaves_startTest h q _ _ _ _ _; exact h]
  | cancelTest x v => exact hQ.leaves_cancelTest h x v
  | restoreEngine e =>
    simp only [own, ownRestoreEngine]
    split <;> [exact h; exact hQ.leaves_restoreEngine h _]
  | getResult p => exact leaves_withPort h p fun _ => by split <;> exact h
  | readTrace k p f c =>
    simp only [own, ownReadTrace]
    split
    · split <;> exact h
    · exact h
  | releaseTrace k =>
    simp only [own, ownReleaseTrace]
    split
    · exact h
    · split
      · exact h
      · exact h
      · next hk => exact ⟨hQ.freeHeld h.keeps hk, h.due⟩
  | fetchReports => simp only [own, ownFetchReports]; split <;> exact hQ.leaves_congr h rfl

/-! ### The management line (chapter 11) -/

theorem leaves_dispatch (h : Leaves Q s t) (f : Frame) : Leaves Q s (t.dispatch f) := by
  unfold State.dispatch
  split
  · exact hQ.leaves_congr h rfl
  · exact hQ.leaves_congr h rfl
  · exact hQ.leaves_congr (hQ.leaves_own h _) rfl

theorem leaves_serve (h : Leaves Q s t) : Leaves Q s t.serve := by
  have hi (l : List Frame) : Leaves Q s (t.setInbox l) := hQ.leaves_congr h rfl
  unfold State.serve
  split
  · exact hQ.leaves_congr h rfl
  · split
    · exact hQ.leaves_dispatch (hi _) _
    · exact h

theorem leaves_serveIfIdle (h : Leaves Q s t) : Leaves Q s t.serveIfIdle := by
  unfold State.serveIfIdle
  split
  · exact hQ.leaves_serve h
  · exact h

theorem leaves_offerFrame (h : Leaves Q s t) (f : Frame) : Leaves Q s (t.offerFrame f) := by
  have hi (l : List Frame) : Leaves Q s (t.setInbox l) := hQ.leaves_congr h rfl
  have ho (x : Option Reply) : Leaves Q s (t.setOverflow x) := hQ.leaves_congr h rfl
  unfold State.offerFrame
  split
  · exact hQ.leaves_serveIfIdle (hi _)
  · split
    · exact hQ.leaves_serveIfIdle (ho _)
    · exact h

theorem leaves_hostRequest (h : Leaves Q s t) (tag : Byte) (r : Request) : Leaves Q s (t.hostRequest tag r) := by
  unfold State.hostRequest
  split
  · exact h
  · exact hQ.leaves_offerFrame h _

theorem leaves_setReceiver (h : Leaves Q s t) (x : Receiver) : Leaves Q s (t.setReceiver x) := hQ.leaves_congr h rfl

theorem leaves_character (h : Leaves Q s t) (c : Byte) (framingError : Bool) :
    Leaves Q s (t.character c framingError) := by
  have hr := hQ.leaves_setReceiver h
  unfold State.character
  split
  · split
    · exact hr _
    · exact h
  · split <;> exact hr _
  · split
    · exact hr _
    · split
      · exact hr _
      · unfold State.frameComplete
        dsimp only
        split
        · exact hQ.leaves_offerFrame (hr _) _
        · exact hr _

/-! ### Restarts (R80, R81, R188) -/

theorem leaves_coldStart (u : State) (c : RestartCause) : Leaves Q s (u.coldStart c) :=
  ⟨hQ.coldStart u c, fun _ => rfl⟩

theorem leaves_warmRestart (h : Leaves Q s t) : Leaves Q s t.warmRestart := by
  have ha : Leaves Q s t.abortAll :=
    hQ.leaves_abort (hQ.leaves_abort (hQ.leaves_abort (hQ.leaves_abort h 0) 1) 2) 3
  exact ⟨hQ.warmBlocks ha.keeps t.abortAll_measuring, ha.due⟩

theorem leaves_replySent (h : Leaves Q s t) : Leaves Q s t.replySent := by
  have hi : Leaves Q s (t.setSender .idle) := hQ.leaves_congr h rfl
  unfold State.replySent
  split
  · exact h
  · exact hQ.leaves_serve hi
  · next m _ =>
    cases m with
    | cold => exact hQ.leaves_coldStart t _
    | warm => exact hQ.leaves_warmRestart h

/-! ### Every command -/

/-- Every command keeps the property and leaves no grant pass due where none was. -/
theorem leaves_exec (h : Q s) (i : Instr) : ∃ t, exec i s = .next t ∧ Leaves Q s t := by
  have hs : Leaves Q s s := ⟨h, id⟩
  cases i with
  | energyPresent p => exact ⟨_, rfl, hQ.leaves_arrive hs (hQ.change h (.energyOn p _ _) [])⟩
  | energyAbsent p => exact ⟨_, rfl, hQ.leaves_arrive hs (hQ.change h (.energyOff p _ _) [])⟩
  | partnerWord p w => exact ⟨_, rfl, hQ.leaves_arrive hs (hQ.move h (.hear p _ w _))⟩
  | trainingConverged p m map polarity =>
    exact ⟨_, rfl, hQ.leaves_arrive hs (hQ.move h (.converged _ map polarity _))⟩
  | trainingFailed p => exact ⟨_, rfl, hQ.leaves_arrive hs (hQ.move h (.failTraining _ _))⟩
  | marginSample p x => exact ⟨_, rfl, hQ.leaves_arrive hs (hQ.marginSample h p _)⟩
  | signalLost p => exact ⟨_, rfl, hQ.leaves_arrive hs (hQ.move h (.loseSignal _ _))⟩
  | exchangeTimerExpiry p => exact ⟨_, rfl, hQ.leaves_settle (hQ.move h (.exchangeExpired _ _))⟩
  | trainingTimerExpiry p => exact ⟨_, rfl, hQ.leaves_settle (hQ.move h (.trainingExpired _ _))⟩
  | holdoffWaitEnd p => exact ⟨_, rfl, hQ.leaves_settle (hQ.change h (.holdoffEnded p _ _) [])⟩
  | energyAbsenceTimerExpiry p => exact ⟨_, rfl, hQ.leaves_settle (hQ.change h (.absenceExpired p _ _) [])⟩
  | recheckTimerExpiry p => exact ⟨_, rfl, hQ.leaves_recheckExpired hs p⟩
  | agingClockExpiry n => exact ⟨_, rfl, hQ.leaves_agingExpired hs n⟩
  | busCheckPass e => exact ⟨_, rfl, hQ.leaves_busPass hs e⟩
  | busCheckFail e => exact ⟨_, rfl, hQ.leaves_busFail hs e⟩
  | listenAttemptEnd e c => exact ⟨_, rfl, hQ.leaves_listenEnd hs e c⟩
  | listenWaitEnd e => exact ⟨_, rfl, hQ.leaves_listenWaitEnd hs e⟩
  | launchCaptured e c => exact ⟨_, rfl, hQ.leaves_launch hs e c⟩
  | analysisDone e => exact ⟨_, rfl, hQ.leaves_analysisDone hs e⟩
  | releaseEnd e =>
    refine ⟨_, rfl, ?_⟩
    split
    · exact hQ.leaves_releaseEnd hs ‹_›
    · exact hs
  | mrxCharacter c x =>
    refine ⟨_, rfl, ?_⟩
    split
    · exact hs
    · exact hQ.leaves_character hs c x
  | gapTimerExpiry => exact ⟨_, rfl, hQ.leaves_setReceiver hs _⟩
  | replySent => exact ⟨_, rfl, hQ.leaves_replySent hs⟩
  | powerOn | resetRelease => exact ⟨_, rfl, hQ.leaves_coldStart s _⟩
  | resetAssert => exact ⟨_, rfl, hQ.leaves_congr (hQ.leaves_coldStart s s.lastCause) rfl⟩
  | _ => exact ⟨_, rfl, hQ.leaves_hostRequest hs _ _⟩

/-- Every step keeps the property and leaves no grant pass due where none was. -/
theorem leaves_step (h : Q s) (ht : step s = .next t) : Leaves Q s t := by
  unfold step at ht
  split at ht
  · next i rest _ =>
    obtain ⟨u, hu, hl⟩ := hQ.leaves_exec (s := s.setPending rest) (hQ.congr h rfl) i
    obtain rfl : u = t := by simpa [hu] using ht
    exact ⟨hl.keeps, hl.due⟩
  · obtain rfl : s = t := by simpa using ht
    exact ⟨h, id⟩

end CommandInvariant
end Sys2Proof.Machine
end
section
/-! SUPPORT. The arbiter: the record and the engine a pass chooses, its end, and that no command leaves a record that could
be granted (R58, R84). -/

namespace Sys2Proof.Machine

/-! ### The choice of a record and of an engine (R84) -/

theorem bestRecord_eq_none_iff {l : List TestRecord} : bestRecord l = none ↔ l = [] := by
  cases l with
  | nil => simp [bestRecord]
  | cons r rest =>
    simp only [bestRecord, reduceCtorEq, iff_false]
    split
    · split <;> nofun
    · nofun

/-- The record chosen stands before all others of its priority, and none has a higher one. -/
theorem bestRecord_filter_first {c : TestRecord → Bool} :
    ∀ {l : List TestRecord} {r : TestRecord}, bestRecord (l.filter c) = some r →
      ∃ i, l[i]? = some r ∧ ∀ (k : Nat) (x : TestRecord), l[k]? = some x → c x = true →
        x.priority < r.priority ∨ x.priority = r.priority ∧ i ≤ k
  | [], r, h => by simp [bestRecord] at h
  | y :: l, r, h => by
    by_cases hy : c y = true
    · rw [List.filter_cons_of_pos hy, bestRecord] at h
      split at h
      · next z hz =>
        obtain ⟨i, hi, hbest⟩ := bestRecord_filter_first hz
        split at h
        · next hlt =>
          obtain rfl := Option.some.inj h
          refine ⟨i + 1, hi, fun k x hk hx => ?_⟩
          cases k with
          | zero =>
            obtain rfl : y = x := by simpa using hk
            exact .inl hlt
          | succ k => exact (hbest k x hk hx).imp_right fun ⟨he, hle⟩ => ⟨he, Nat.succ_le_succ hle⟩
        · next hge =>
          obtain rfl := Option.some.inj h
          refine ⟨0, rfl, fun k x hk hx => ?_⟩
          cases k with
          | zero =>
            obtain rfl : y = x := by simpa using hk
            exact .inr ⟨rfl, le_refl _⟩
          | succ k =>
            have := hbest k x hk hx
            omega
      · next hz =>
        obtain rfl := Option.some.inj h
        rw [bestRecord_eq_none_iff, List.filter_eq_nil_iff] at hz
        refine ⟨0, rfl, fun k x hk hx => ?_⟩
        cases k with
        | zero =>
          obtain rfl : y = x := by simpa using hk
          exact .inr ⟨rfl, le_refl _⟩
        | succ k => exact absurd hx (hz x (List.mem_of_getElem? hk))
    · rw [List.filter_cons_of_neg hy] at h
      obtain ⟨i, hi, hbest⟩ := bestRecord_filter_first h
      refine ⟨i + 1, hi, fun k x hk hx => ?_⟩
      cases k with
      | zero =>
        obtain rfl : y = x := by simpa using hk
        exact absurd hx hy
      | succ k => exact (hbest k x hk hx).imp_right fun ⟨he, hle⟩ => ⟨he, Nat.succ_le_succ hle⟩

namespace State

variable {s t : State}

/-- The engine chosen is the lowest-numbered IDLE one that reaches the bank. -/
theorem idleEngine_eq_some_iff (s : State) (b : BankId) (e : EngineId) :
    s.idleEngine b = some e ↔ (reaches e b = true ∧ (s.engine e).state = .idle) ∧
      ∀ d, d < e → reaches d b = true → (s.engine d).state ≠ .idle := by
  show (List.finRange 4).find? (fun e => reaches e b && (s.engine e).state == .idle) = some e ↔ _
  rw [← Fin.find?_eq_find?_finRange]
  simp only [Fin.find?_eq_some_iff, Bool.and_eq_true, beq_iff_eq, Bool.and_eq_false_imp, beq_eq_false_iff_ne]

theorem idleEngine_isSome_iff (s : State) (b : BankId) :
    (s.idleEngine b).isSome ↔ ∃ e, reaches e b = true ∧ (s.engine e).state = .idle := by
  show ((List.finRange 4).find? fun e => reaches e b && (s.engine e).state == .idle).isSome ↔ _
  simp [List.find?_isSome]

/-- A record may be chosen while it is PENDING, its bank is idle, and an IDLE engine reaches the bank. -/
theorem choosable_iff (s : State) (r : TestRecord) :
    s.choosable r = true ↔ r.state = .pending ∧ s.bank (bankOf r.port) = none ∧
      ∃ e, reaches e (bankOf r.port) = true ∧ (s.engine e).state = .idle := by
  rw [choosable, Bool.and_eq_true, Bool.and_eq_true, idleEngine_isSome_iff, beq_iff_eq, Option.isNone_iff_eq_none,
    and_assoc]

theorem choice_eq_none_iff (s : State) : s.choice = none ↔ ∀ r ∈ s.queue, s.choosable r = false := by
  simp [choice, bestRecord_eq_none_iff]

/-- A pass goes on exactly with a choice and its engine. -/
theorem passOnce_eq_some_iff (s t : State) :
    s.passOnce = some t ↔ ∃ r e, s.choice = some r ∧ s.idleEngine (bankOf r.port) = some e ∧ t = s.grant r e := by
  unfold passOnce
  cases s.choice with
  | none => simp
  | some r => cases he : s.idleEngine (bankOf r.port) <;> simp [he, eq_comm]

/-- A pass ends exactly where no record may be chosen. -/
theorem passOnce_eq_none_iff (s : State) : s.passOnce = none ↔ ∀ r ∈ s.queue, s.choosable r = false := by
  rw [← choice_eq_none_iff]
  unfold passOnce
  cases hc : s.choice with
  | none => simp
  | some r =>
    obtain ⟨-, -, he⟩ := (s.choosable_iff r).mp (choice_mem hc).2
    obtain ⟨e, he⟩ := Option.isSome_iff_exists.mp ((s.idleEngine_isSome_iff _).mpr he)
    simp [he]

/-! ### The end of a pass -/

/-- How many records are PENDING. -/
def pendingCount (s : State) : Nat := s.queue.countP (fun r => r.state == .pending)

/-- A grant takes the records of its number out of PENDING and brings none to it. -/
theorem grant_pendingCount (s : State) (r : TestRecord) (e : EngineId) :
    (s.grant r e).pendingCount = s.queue.countP (fun x => x.state == .pending && x.number != r.number) := by
  unfold grant pendingCount
  split
  · rw [completeRecord_queue, List.countP_filter]
  · have hq : (s.grantEngine r e).queue = runRecord r.number e s.queue := by simp [grantEngine_eq]
    rw [hq, runRecord, List.countP_map]
    refine List.countP_congr fun x _ => ?_
    by_cases hx : x.number = r.number <;> simp [hx]

theorem grant_pendingCount_lt {r : TestRecord} (hr : r ∈ s.queue) (hp : r.state = .pending) (e : EngineId) :
    (s.grant r e).pendingCount < s.pendingCount := by
  rw [grant_pendingCount, pendingCount]
  obtain ⟨l, l', hl⟩ := List.append_of_mem hr
  have hle (l : List TestRecord) : l.countP (fun x => x.state == .pending && x.number != r.number) ≤
      l.countP (fun x => x.state == .pending) :=
    List.countP_mono_left fun x _ hx => (Bool.and_eq_true_iff.mp hx).1
  have h1 := hle l
  have h2 := hle l'
  simp only [hl, List.countP_append, List.countP_cons, hp, bne_self_eq_false, Bool.and_false, beq_self_eq_true, if_true,
    Bool.false_eq_true, if_false]
  omega

theorem passOnce_pendingCount_lt (h : s.passOnce = some t) : t.pendingCount < s.pendingCount := by
  obtain ⟨r, e, hc, -, rfl⟩ := (passOnce_eq_some_iff s t).mp h
  obtain ⟨hr, hch⟩ := choice_mem hc
  exact grant_pendingCount_lt hr ((s.choosable_iff r).mp hch).1 e

/-- With as many rounds as there are PENDING records a pass reaches its end. -/
theorem passFuel_passOnce : ∀ {n : Nat} {s : State}, s.pendingCount ≤ n → (s.passFuel n).passOnce = none
  | 0, s, hn => by
    rw [passFuel, passOnce_eq_none_iff]
    intro r hr
    have hp := List.countP_eq_zero.mp (Nat.le_zero.mp hn) r hr
    simp only [beq_iff_eq] at hp
    by_contra hc
    exact hp ((s.choosable_iff r).mp (by simpa using hc)).1
  | n + 1, s, hn => by
    unfold passFuel
    split
    · assumption
    · next t ht =>
      have := passOnce_pendingCount_lt ht
      exact passFuel_passOnce (by omega)

/-- More rounds than needed change nothing. -/
theorem passFuel_add : ∀ {n : Nat} {s : State}, (s.passFuel n).passOnce = none → ∀ m,
    s.passFuel (n + m) = s.passFuel n
  | 0, s, hn, m => by
    rw [passFuel] at hn
    cases m <;> simp [passFuel, hn]
  | n + 1, s, hn, m => by
    rw [Nat.add_right_comm, passFuel, passFuel]
    rw [passFuel] at hn
    cases ht : s.passOnce with
    | none => rfl
    | some t =>
      rw [ht] at hn
      exact passFuel_add (s := t) hn m

/-- After a pass no record may be chosen, whatever was before (R84). -/
theorem grantPass_choosable (s : State) : ∀ r ∈ s.grantPass.queue, s.grantPass.choosable r = false :=
  (passOnce_eq_none_iff _).mp (passFuel_passOnce List.countP_le_length)

/-- A pass is its first choice and then a pass. -/
theorem grantPass_of_passOnce (h : s.passOnce = some t) : s.grantPass = t.grantPass := by
  have hlt := passOnce_pendingCount_lt h
  have hs : s.pendingCount ≤ s.queue.length := List.countP_le_length
  have ht : t.pendingCount ≤ t.queue.length := List.countP_le_length
  obtain ⟨m, hm⟩ := Nat.exists_eq_add_of_lt (hlt.trans_le hs)
  obtain ⟨k, hk⟩ := Nat.exists_eq_add_of_le ht
  have hstep : s.grantPass = t.passFuel (t.pendingCount + m) := by
    rw [grantPass, hm, passFuel, h]
  rw [hstep, grantPass, hk, passFuel_add (passFuel_passOnce (le_refl _)), passFuel_add (passFuel_passOnce (le_refl _))]

end State

/-- Settles O25: the record by `bestRecord_filter_first`, the end of the pass by the count of PENDING records. -/
theorem grantPassChoices : Obligations.GrantPassChoices := by
  refine fun s => ⟨s.choosable_iff, s.passOnce_eq_none_iff, fun t ht => ?_, fun t ht => State.grantPass_of_passOnce ht,
    s.grantPass_choosable⟩
  obtain ⟨r, e, hc, he, rfl⟩ := (s.passOnce_eq_some_iff t).mp ht
  obtain ⟨i, hi, hfirst⟩ := bestRecord_filter_first hc
  obtain ⟨⟨hreach, hidle⟩, hlow⟩ := (s.idleEngine_eq_some_iff _ e).mp he
  exact ⟨i, r, e, hi, (State.choice_mem hc).2, hfirst, hreach, hidle, hlow, rfl⟩

/-! ### The arbiter between commands (R58, R84) -/

/-- Where no pass is due no record may be chosen: what holds all through a cause. -/
def State.Waiting (s : State) : Prop := s.passDue = false → ∀ r ∈ s.queue, s.choosable r = false

theorem State.settled_iff (s : State) : s.settled ↔ s.passDue = false ∧ s.Waiting :=
  ⟨fun ⟨hd, h⟩ => ⟨hd, fun _ => h⟩, fun ⟨hd, h⟩ => ⟨hd, h hd⟩⟩

namespace State.Waiting

variable {s t : State}

/-- Where a pass is due there is nothing to keep. -/
theorem of_due (h : t.passDue = true) : t.Waiting := fun hd => by simp [h] at hd

theorem grantPass (s : State) : s.grantPass.Waiting := fun _ => s.grantPass_choosable

/-- What makes nothing free, brings no new port to PENDING and calls no pass off. -/
theorem mono (h : s.Waiting) (hd : t.passDue = false → s.passDue = false) (hf : s.NoFreer t)
    (hq : ∀ r ∈ t.queue, ∃ x ∈ s.queue, x.state = r.state ∧ x.port = r.port) : t.Waiting := by
  intro htd r hr
  obtain ⟨x, hx, hs, hp⟩ := hq r hr
  have hc := hf.choosable (h (hd htd) x hx)
  have he : t.choosable r = t.choosable x := by simp only [choosable, hs, hp]
  rw [he, hc]

/-- What leaves banks, engines and whether a pass is due, and brings no record. -/
theorem of_subset (h : s.Waiting) (hd : t.passDue = s.passDue) (hb : t.banks = s.banks) (he : t.engines = s.engines)
    (hq : ∀ r ∈ t.queue, r ∈ s.queue) : t.Waiting :=
  h.mono (fun e => hd.symm.trans e) (.of_eq hb he) fun r hr => ⟨r, hq r hr, rfl, rfl⟩

theorem completeRecord (h : s.Waiting) (r : TestRecord) (x : TestOutcome) (q : Quad PairRecord) :
    (s.completeRecord r x q).Waiting :=
  h.of_subset (by simp) (by simp) (by simp) fun y hy => by
    rw [completeRecord_queue] at hy
    exact List.mem_of_mem_filter hy

/-- Changing records but for state and port. -/
theorem mapQueue (h : s.Waiting) {f : TestRecord → TestRecord} (hf : ∀ r, (f r).state = r.state ∧ (f r).port = r.port) :
    (s.setQueue (s.queue.map f)).Waiting := by
  refine h.mono id (.of_eq rfl rfl) fun r hr => ?_
  obtain ⟨x, hx, rfl⟩ := List.mem_map.mp hr
  exact ⟨x, hx, (hf x).1.symm, (hf x).2.symm⟩

theorem merge (h : s.Waiting) (r : TestRecord) (y : Nat) : (s.merge r y).Waiting := by
  unfold State.merge
  dsimp only
  split
  · exact of_due rfl
  · refine h.mapQueue fun x => ?_
    split <;> exact ⟨rfl, rfl⟩

theorem holdNotice (h : s.Waiting) (p : PortId) (n : Nat) (k : Option EventKind) : (s.holdNotice p n k).Waiting :=
  h.of_subset (by simp) (by simp) (by simp) (by simp)

theorem submit (h : s.Waiting) (p : PortId) (k : Option EventKind) : (s.submit p k).Waiting := by
  have hn (n : Nat) : (s.setNextNumber n).Waiting := h
  unfold State.submit
  dsimp only
  split
  · exact (h.merge _ _).holdNotice p _ k
  · split
    · exact of_due rfl
    · exact ((hn _).holdNotice p _ k).completeRecord _ _ _

theorem setEngine (h : s.Waiting) {e : EngineId} {x : Engine} (hx : x.state ≠ .idle) : (s.setEngine e x).Waiting := by
  refine h.mono id ⟨fun _ => id, fun d hd => ?_⟩ fun r hr => ⟨r, hr, rfl, rfl⟩
  by_cases e' : d = e
  · subst e'
    exact absurd (by simpa using hd) hx
  · rwa [setEngine_engine_ne _ _ _ _ e'] at hd

theorem settleSlot (h : s.Waiting) (j : Job) (x : TestOutcome) (q : Quad PairRecord) (c : Quad (List Int)) :
    (s.settleSlot j x q c).Waiting := h.of_subset (by simp) (by simp) (by simp) (by simp)

theorem endTest (h : s.Waiting) (e : EngineId) (x : TestOutcome) (q : Quad PairRecord) : (s.endTest e x q).Waiting := by
  have hs (r : TestRecord) (y : Option ResultRecord) : (s.setResult r.port y).Waiting := h
  unfold State.endTest
  dsimp only
  split
  · exact h.setEngine nofun
  · next j _ =>
    split
    · exact (h.settleSlot j x q _).setEngine nofun
    · exact (((hs _ _).settleSlot j x q _).completeRecord _ _ _).setEngine nofun

theorem settle (h : s.Waiting) : s.settle.Waiting := by
  unfold State.settle
  split
  · exact grantPass _
  · exact h

/-- Every shared operation keeps the arbiter waiting: what frees something or brings a PENDING record calls for a pass. -/
theorem commandInvariant : CommandInvariant State.Waiting where
  congr h e := by
    simp only [testBlocks, Prod.mk.injEq] at e
    obtain ⟨-, hq, -, hb, he, -, hd⟩ := e
    exact h.of_subset hd hb he (by simp [hq])
  modPort h _ := h
  submit h := h.submit
  append _ _ _ _ := of_due rfl
  complete h _ _ := h.completeRecord _
  age h n := h.mapQueue fun r => by split <;> exact ⟨rfl, rfl⟩
  grantPass _ := grantPass _
  settle h := h.settle
  measure h _ hx _ _ := h.setEngine fun e => by simp [e, EngineState.measuring] at hx
  endTest h _ := h.endTest _
  restore _ _ := grantPass _
  releaseEnd _ _ := grantPass _
  freeHeld h _ := h
  coldStart _ _ := fun _ => List.forall_mem_nil _
  warmBlocks _ _ := fun _ => List.forall_mem_nil _

end State.Waiting

/-- Settles O57: between commands the arbiter waits, and no command leaves a pass due. -/
theorem stepSettlesTheArbiter : Obligations.StepSettlesTheArbiter := by
  intro s t hs ht
  obtain ⟨hd, hw⟩ := s.settled_iff.mp hs
  have hl := State.Waiting.commandInvariant.leaves_step hw ht
  exact t.settled_iff.mpr ⟨hl.due hd, hl.keeps⟩

end Sys2Proof.Machine
end
section
/-! SUPPORT. Engines, banks, ports, records and slots of running tests: their agreement read from the engine's side, what
leaves it alone, and the three changes an engine makes: it connects, it ends its test, it disconnects (R83, R87, R88, R94,
R96, R142). -/

namespace Sys2Proof.Machine

/-! ### What an engine stands for (R83, R87, R91, R142) -/

namespace Engine

/-- The engine is connected to the port. -/
def Serves (x : Engine) (p : PortId) : Prop := ∃ j, x.job = some j ∧ j.port = p

/-- The engine measures for the record of this number and port. -/
def Measures (x : Engine) (n : Nat) (p : PortId) : Prop :=
  x.state.measuring = true ∧ ∃ j, x.job = some j ∧ j.number = n ∧ j.port = p

/-- The engine fills the slot for the record of this number. -/
def Claims (x : Engine) (k : SlotId) (n : Nat) : Prop :=
  x.state.measuring = true ∧ ∃ j, x.job = some j ∧ j.slot = some k ∧ j.number = n

/-- What engine `e` holds is what its state says (R91). -/
def Sound (e : EngineId) (x : Engine) : Prop :=
  match x.state with
  | .idle | .outOfService => x.job = none ∧ x.meas = none ∧ x.faultPending = false
  | .connect | .release => ∃ j, x.job = some j ∧ reaches e (bankOf j.port) = true
  | .listen | .pulse | .analyse => x.meas.isSome ∧ ∃ j, x.job = some j ∧ reaches e (bankOf j.port) = true

section
variable {x y : Engine} {e : EngineId} {j : Job}

theorem serves_iff (h : x.job = some j) (p : PortId) : x.Serves p ↔ j.port = p := by simp [Serves, h]

theorem measures_iff (hm : x.state.measuring = true) (h : x.job = some j) (n : Nat) (p : PortId) :
    x.Measures n p ↔ j.number = n ∧ j.port = p := by simp [Measures, hm, h]

theorem claims_iff (hm : x.state.measuring = true) (h : x.job = some j) (k : SlotId) (n : Nat) :
    x.Claims k n ↔ j.slot = some k ∧ j.number = n := by simp [Claims, hm, h]

theorem not_serves (h : x.job = none) (p : PortId) : ¬x.Serves p := by simp [Serves, h]

theorem not_measures (h : x.state.measuring = false) (n : Nat) (p : PortId) : ¬x.Measures n p := by simp [Measures, h]

theorem not_claims (h : x.state.measuring = false) (k : SlotId) (n : Nat) : ¬x.Claims k n := by simp [Claims, h]

theorem sound_of_job (h : x.job = some j) (hr : reaches e (bankOf j.port) = true)
    (hs : x.state = .connect ∨ x.state = .release ∨ x.state.measuring = true ∧ x.meas.isSome) : x.Sound e := by
  unfold Sound
  rcases hs with hs | hs | ⟨hs, hm⟩
  · rw [hs]
    exact ⟨j, h, hr⟩
  · rw [hs]
    exact ⟨j, h, hr⟩
  · split
    case h_1 he | h_2 he => simp [he, EngineState.measuring] at hs
    case h_3 | h_4 => exact ⟨j, h, hr⟩
    all_goals exact ⟨hm, j, h, hr⟩

namespace Sound

theorem reaches (h : x.Sound e) (hj : x.job = some j) : reaches e (bankOf j.port) = true := by
  unfold Sound at h
  split at h
  case h_1 | h_2 =>
    obtain ⟨hn, -⟩ := h
    simp [hn] at hj
  case h_3 | h_4 =>
    obtain ⟨k, hk, hr⟩ := h
    obtain rfl := Option.some.inj (hk.symm.trans hj)
    exact hr
  all_goals
    obtain ⟨-, k, hk, hr⟩ := h
    obtain rfl := Option.some.inj (hk.symm.trans hj)
    exact hr

theorem job_of_measuring (h : x.Sound e) (hm : x.state.measuring = true) : ∃ j, x.job = some j := by
  unfold Sound at h
  split at h
  case h_1 hs | h_2 hs => simp [hs, EngineState.measuring] at hm
  case h_3 | h_4 =>
    obtain ⟨j, hj, -⟩ := h
    exact ⟨j, hj⟩
  all_goals
    obtain ⟨-, j, hj, -⟩ := h
    exact ⟨j, hj⟩

theorem job_of_release (h : x.Sound e) (hs : x.state = .release) : ∃ j, x.job = some j := by
  simp only [Sound, hs] at h
  obtain ⟨j, hj, -⟩ := h
  exact ⟨j, hj⟩

theorem job_of_idle (h : x.Sound e) (hs : x.state = .idle) : x.job = none := by
  simp only [Sound, hs] at h
  exact h.1

/-- A change of a job that keeps its port. -/
theorem of_job (h : x.Sound e) (hs : y.state = x.state) (hm : y.meas = x.meas) (hf : y.faultPending = x.faultPending)
    {f : Job → Job} (hj : y.job = x.job.map f) (hp : ∀ j, (f j).port = j.port) : y.Sound e := by
  unfold Sound at h ⊢
  rw [hs, hm, hf, hj]
  split at h <;> simpa [hp] using h

end Sound
end
end Engine

namespace State

variable {s t u : State}

/-- The record of number `n` and port `p` is RUNNING on engine `e`. -/
def Runs (s : State) (e : EngineId) (n : Nat) (p : PortId) : Prop :=
  ∃ r ∈ s.queue, r.number = n ∧ r.port = p ∧ r.state = .running e

/-- Engines, banks and ports agree about every connection (R83, R88). -/
structure Connected (s : State) : Prop where
  engine : ∀ e, (s.engine e).Sound e
  bank : ∀ b u, s.bank b = some u ↔ bankOf u.port = b ∧ (s.engine u.engine).Serves u.port
  test : ∀ p, (s.port p).state = .test ↔ ∃ e, (s.engine e).Serves p

/-- Engines, records and slots agree about every measurement (R87, R142). -/
structure Measured (s : State) : Prop where
  runs : ∀ e n p, s.Runs e n p ↔ (s.engine e).Measures n p
  slot : ∀ k e n, s.slot k = .filling e n ↔ (s.engine e).Claims k n

/-- An engine with a job is sound just with its bank busy for the job's port. -/
theorem engineSound_iff (s : State) (e : EngineId) :
    s.engineSound e ↔ (s.engine e).Sound e ∧
      ∀ j, (s.engine e).job = some j → s.bank (bankOf j.port) = some { port := j.port, engine := e } := by
  unfold engineSound Engine.Sound
  cases (s.engine e).state with
  | idle | outOfService =>
    refine ⟨fun h => ⟨h, fun j hj => ?_⟩, fun h => h.1⟩
    obtain ⟨hn, -⟩ := h
    simp [hn] at hj
  | connect | release =>
    constructor
    · rintro ⟨j, hj, hb, hr⟩
      exact ⟨⟨j, hj, hr⟩, fun k hk => by rwa [← Option.some.inj (hj.symm.trans hk)]⟩
    · rintro ⟨⟨j, hj, hr⟩, hb⟩
      exact ⟨j, hj, hb j hj, hr⟩
  | listen | pulse | analyse =>
    constructor
    · rintro ⟨hm, j, hj, hb, hr⟩
      exact ⟨⟨hm, j, hj, hr⟩, fun k hk => by rwa [← Option.some.inj (hj.symm.trans hk)]⟩
    · rintro ⟨⟨hm, j, hj, hr⟩, hb⟩
      exact ⟨hm, j, hj, hb j hj, hr⟩

theorem runningSound_iff (s : State) :
    s.runningSound ↔ ∀ e n p, s.Runs e n p ↔ (s.engine e).Measures n p := by
  constructor
  · rintro ⟨hr, he⟩ e n p
    constructor
    · rintro ⟨r, hm, rfl, rfl, hs⟩
      exact hr r hm e hs
    · rintro ⟨hm, j, hj, rfl, rfl⟩
      exact he e j hm hj
  · exact fun h => ⟨fun r hr e hs => (h e r.number r.port).mp ⟨r, hr, rfl, rfl, hs⟩,
      fun e j hm hj => (h e j.number j.port).mpr ⟨hm, j, hj, rfl, rfl⟩⟩

theorem slotsSound_iff (s : State) :
    s.slotsSound ↔ ∀ k e n, s.slot k = .filling e n ↔ (s.engine e).Claims k n := by
  constructor
  · rintro ⟨hk, he⟩ k e n
    refine ⟨hk k e n, ?_⟩
    rintro ⟨hm, j, hj, hs, rfl⟩
    exact he e j k hm hj hs
  · exact fun h => ⟨fun k e n => (h k e n).mp, fun e j k hm hj hs => (h k e j.number).mpr ⟨hm, j, hj, hs, rfl⟩⟩

theorem connected_iff (s : State) :
    s.Connected ↔ (∀ e, s.engineSound e) ∧ (∀ b, s.bankSound b) ∧ ∀ p, s.testSound p := by
  simp only [engineSound_iff]
  constructor
  · rintro ⟨he, hb, ht⟩
    have hbusy (p : PortId) : (∃ u, s.bank (bankOf p) = some u ∧ u.port = p) ↔ ∃ e, (s.engine e).Serves p :=
      ⟨fun ⟨u, hu, hp⟩ => ⟨u.engine, hp ▸ ((hb _ u).mp hu).2⟩, fun ⟨e, h⟩ => ⟨⟨p, e⟩, (hb _ _).mpr ⟨rfl, h⟩, rfl⟩⟩
    exact ⟨fun e => ⟨he e, fun j hj => (hb _ _).mpr ⟨rfl, j, hj, rfl⟩⟩, fun b u => (hb b u).mp,
      fun p => (ht p).trans (hbusy p).symm⟩
  · rintro ⟨he, hb, ht⟩
    have hbank (b : BankId) (u : BankUse) :
        s.bank b = some u ↔ bankOf u.port = b ∧ (s.engine u.engine).Serves u.port := by
      refine ⟨hb b u, ?_⟩
      rintro ⟨rfl, j, hj, hp⟩
      rw [← hp, (he u.engine).2 j hj, hp]
    refine ⟨fun e => (he e).1, hbank, fun p => (ht p).trans ⟨?_, ?_⟩⟩
    · rintro ⟨u, hu, rfl⟩
      exact ⟨u.engine, ((hbank _ u).mp hu).2⟩
    · rintro ⟨e, h⟩
      exact ⟨⟨p, e⟩, (hbank _ _).mpr ⟨rfl, h⟩, rfl⟩

theorem testsSound_iff (s : State) : s.testsSound ↔ s.Connected ∧ s.Measured := by
  rw [connected_iff]
  constructor
  · rintro ⟨he, hb, ht, hr, hs⟩
    exact ⟨⟨he, hb, ht⟩, (runningSound_iff s).mp hr, (slotsSound_iff s).mp hs⟩
  · rintro ⟨⟨he, hb, ht⟩, hr, hs⟩
    exact ⟨he, hb, ht, (runningSound_iff s).mpr hr, (slotsSound_iff s).mpr hs⟩

/-! ### One engine changes -/

namespace Connected

/-- A port has one engine. -/
theorem eq_of_serves (h : s.Connected) {d e : EngineId} {p : PortId} (hd : (s.engine d).Serves p)
    (he : (s.engine e).Serves p) : d = e := by
  have hbd := (h.bank (bankOf p) ⟨p, d⟩).mpr ⟨rfl, hd⟩
  have hbe := (h.bank (bankOf p) ⟨p, e⟩).mpr ⟨rfl, he⟩
  simpa using hbd.symm.trans hbe

/-- Every engine stays connected as it was. -/
theorem congr (h : s.Connected) (hb : ∀ b, t.bank b = s.bank b)
    (ht : ∀ p, (t.port p).state = .test ↔ (s.port p).state = .test) (he : ∀ e, (t.engine e).Sound e)
    (hs : ∀ e p, (t.engine e).Serves p ↔ (s.engine e).Serves p) : t.Connected :=
  ⟨he, fun b u => by rw [hb, hs]; exact h.bank b u, fun p => by simp only [ht, hs]; exact h.test p⟩

/-- An engine without a connection takes the port of an idle bank that it reaches (R87, R88). -/
theorem connect (h : s.Connected) {e : EngineId} {p : PortId} (hn : (s.engine e).job = none)
    (hfree : s.bank (bankOf p) = none) (hsound : (t.engine e).Sound e)
    (hserves : ∀ p', (t.engine e).Serves p' ↔ p = p')
    (hengine : ∀ d, d ≠ e → t.engine d = s.engine d) (hbank : t.bank (bankOf p) = some ⟨p, e⟩)
    (hbanks : ∀ b, b ≠ bankOf p → t.bank b = s.bank b) (htest : (t.port p).state = .test)
    (hports : ∀ p', p' ≠ p → ((t.port p').state = .test ↔ (s.port p').state = .test)) : t.Connected := by
  have hold (d : EngineId) (hd : d ≠ e) : ¬(s.engine d).Serves p := fun hs => by
    simpa [hfree] using (h.bank (bankOf p) ⟨p, d⟩).mpr ⟨rfl, hs⟩
  refine ⟨fun d => ?_, fun b u => ?_, fun p' => ?_⟩
  · by_cases hd : d = e
    · exact hd ▸ hsound
    · rw [hengine d hd]
      exact h.engine d
  · obtain ⟨up, ue⟩ := u
    by_cases hu : ue = e
    · subst hu
      rw [hserves]
      by_cases hb : b = bankOf p
      · subst hb
        rw [hbank]
        simp only [Option.some.injEq, BankUse.mk.injEq, and_true]
        exact ⟨fun hp => ⟨hp ▸ rfl, hp⟩, fun hp => hp.2⟩
      · rw [hbanks b hb, h.bank]
        exact ⟨fun hs => absurd hs.2 (Engine.not_serves hn _), fun hp => absurd (hp.2 ▸ hp.1).symm hb⟩
    · simp only [hengine ue hu]
      by_cases hb : b = bankOf p
      · subst hb
        rw [hbank]
        simp only [Option.some.injEq, BankUse.mk.injEq]
        refine ⟨fun he => absurd he.2.symm hu, fun ⟨hp, hs⟩ => ?_⟩
        simpa [hfree] using (h.bank _ ⟨up, ue⟩).mpr ⟨hp, hs⟩
      · rw [hbanks b hb]
        exact h.bank b _
  · by_cases hp : p' = p
    · subst hp
      exact iff_of_true htest ⟨e, (hserves _).mpr rfl⟩
    · rw [hports p' hp, h.test]
      refine exists_congr fun d => ?_
      by_cases hd : d = e
      · subst hd
        rw [hserves]
        exact iff_of_false (Engine.not_serves hn _) (Ne.symm hp)
      · rw [hengine d hd]

/-- An engine gives up its port, whose bank becomes idle (R96, R97). -/
theorem disconnect (h : s.Connected) {e : EngineId} {p : PortId} (hserved : (s.engine e).Serves p)
    (hone : ∀ p', (s.engine e).Serves p' → p' = p) (hsound : (t.engine e).Sound e) (hn : (t.engine e).job = none)
    (hengine : ∀ d, d ≠ e → t.engine d = s.engine d) (hbank : t.bank (bankOf p) = none)
    (hbanks : ∀ b, b ≠ bankOf p → t.bank b = s.bank b) (htest : (t.port p).state ≠ .test)
    (hports : ∀ p', p' ≠ p → ((t.port p').state = .test ↔ (s.port p').state = .test)) : t.Connected := by
  have hbusy : s.bank (bankOf p) = some ⟨p, e⟩ := (h.bank _ _).mpr ⟨rfl, hserved⟩
  refine ⟨fun d => ?_, fun b u => ?_, fun p' => ?_⟩
  · by_cases hd : d = e
    · exact hd ▸ hsound
    · rw [hengine d hd]
      exact h.engine d
  · obtain ⟨up, ue⟩ := u
    by_cases hb : b = bankOf p
    · subst hb
      rw [hbank]
      refine iff_of_false nofun fun ⟨hp, hs⟩ => ?_
      by_cases hu : ue = e
      · subst hu
        exact Engine.not_serves hn _ hs
      · simp only [hengine ue hu] at hs
        have := hbusy.symm.trans ((h.bank _ ⟨up, ue⟩).mpr ⟨hp, hs⟩)
        simp [Ne.symm hu] at this
    · rw [hbanks b hb, h.bank]
      by_cases hu : ue = e
      · subst hu
        refine iff_of_false (fun ⟨hp, hs⟩ => hb ?_) fun ⟨_, hs⟩ => Engine.not_serves hn _ hs
        rw [← hp, hone up hs]
      · simp only [hengine ue hu]
  · by_cases hp : p' = p
    · subst hp
      refine iff_of_false htest fun ⟨d, hd⟩ => ?_
      by_cases hde : d = e
      · subst hde
        exact Engine.not_serves hn _ hd
      · rw [hengine d hde] at hd
        exact hde (h.eq_of_serves hd hserved)
    · rw [hports p' hp, h.test]
      refine exists_congr fun d => ?_
      by_cases hd : d = e
      · subst hd
        exact iff_of_false (fun hs => hp (hone p' hs)) (Engine.not_serves hn _)
      · rw [hengine d hd]

end Connected

namespace Measured

/-- Every engine measures as it did. -/
theorem congr (h : s.Measured) (hr : ∀ e n p, t.Runs e n p ↔ s.Runs e n p)
    (hk : ∀ k e n, t.slot k = .filling e n ↔ s.slot k = .filling e n)
    (hm : ∀ e n p, (t.engine e).Measures n p ↔ (s.engine e).Measures n p)
    (hc : ∀ e k n, (t.engine e).Claims k n ↔ (s.engine e).Claims k n) : t.Measured :=
  ⟨fun e n p => by rw [hr, hm]; exact h.runs e n p, fun k e n => by rw [hk, hc]; exact h.slot k e n⟩

/-- One engine begins or ends to measure, its record and its slot with it. -/
theorem of_engine (h : s.Measured) {e : EngineId} (hengine : ∀ d, d ≠ e → t.engine d = s.engine d)
    (hruns : ∀ n p, t.Runs e n p ↔ (t.engine e).Measures n p)
    (hrest : ∀ d, d ≠ e → ∀ n p, t.Runs d n p ↔ s.Runs d n p)
    (hslot : ∀ k n, t.slot k = .filling e n ↔ (t.engine e).Claims k n)
    (hslots : ∀ d, d ≠ e → ∀ k n, t.slot k = .filling d n ↔ s.slot k = .filling d n) : t.Measured := by
  refine ⟨fun d n p => ?_, fun k d n => ?_⟩
  · by_cases hd : d = e
    · exact hd ▸ hruns n p
    · rw [hengine d hd, hrest d hd]
      exact h.runs d n p
  · by_cases hd : d = e
    · exact hd ▸ hslot k n
    · rw [hengine d hd, hslots d hd]
      exact h.slot k d n

end Measured

/-! ### The running records of a changed queue -/

theorem runs_of_map {f : TestRecord → TestRecord}
    (hf : ∀ r, (f r).number = r.number ∧ (f r).port = r.port ∧ (f r).state = r.state) (hq : t.queue = s.queue.map f)
    (e : EngineId) (n : Nat) (p : PortId) : t.Runs e n p ↔ s.Runs e n p := by
  simp [Runs, hq, hf]

theorem runs_of_filter {m : Nat} (hq : t.queue = s.queue.filter (fun y => y.number != m)) (e : EngineId) (n : Nat)
    (p : PortId) : t.Runs e n p ↔ n ≠ m ∧ s.Runs e n p := by
  constructor
  · rintro ⟨r, hr, rfl, rfl, hs⟩
    simp only [hq, List.mem_filter, bne_iff_ne, ne_eq] at hr
    exact ⟨hr.2, r, hr.1, rfl, rfl, hs⟩
  · rintro ⟨hn, r, hr, rfl, rfl, hs⟩
    refine ⟨r, ?_, rfl, rfl, hs⟩
    simpa [hq] using ⟨hr, hn⟩

theorem runs_of_append {r : TestRecord} (hp : r.state = .pending) (hq : t.queue = s.queue ++ [r]) (e : EngineId) (n : Nat)
    (p : PortId) : t.Runs e n p ↔ s.Runs e n p := by
  simp [Runs, hq, or_and_right, exists_or, hp]

/-- No number of a PENDING record runs. -/
theorem queueSound.not_runs_of_pending (h : s.queueSound) {r : TestRecord} (hr : r ∈ s.queue) (hp : r.state = .pending)
    (e : EngineId) (p : PortId) : ¬s.Runs e r.number p := by
  rintro ⟨x, hx, hn, -, hs⟩
  rw [h.eq_of_number hx hr hn, hp] at hs
  exact nomatch hs

theorem queueSound.not_runs_of_takeNumber (h : s.queueSound) (e : EngineId) (p : PortId) :
    ¬s.Runs e s.takeNumber p := by
  rintro ⟨x, hx, hn, -, -⟩
  exact h.takeNumber.2 x hx hn

/-- A grant makes the record run, and no other. -/
theorem queueSound.runs_of_runRecord (h : s.queueSound) {r : TestRecord} (hr : r ∈ s.queue) (hp : r.state = .pending)
    {d : EngineId} (hq : t.queue = runRecord r.number d s.queue) (e : EngineId) (n : Nat) (p : PortId) :
    t.Runs e n p ↔ (e = d ∧ r.number = n ∧ r.port = p) ∨ s.Runs e n p := by
  constructor
  · rintro ⟨x, hx, rfl, rfl, hs⟩
    rw [hq, runRecord] at hx
    obtain ⟨y, hy, rfl⟩ := List.mem_map.mp hx
    split at hs
    · next hn =>
      rw [if_pos hn, h.eq_of_number hy hr hn]
      exact .inl ⟨(by simpa using hs : d = e).symm, rfl, rfl⟩
    · next hn =>
      rw [if_neg hn]
      exact .inr ⟨y, hy, rfl, rfl, hs⟩
  · rintro (⟨rfl, rfl, rfl⟩ | ⟨x, hx, rfl, rfl, hs⟩)
    · refine ⟨{ r with state := .running e }, ?_, rfl, rfl, rfl⟩
      rw [hq]
      exact List.mem_map.mpr ⟨r, hr, if_pos rfl⟩
    · have hn : x.number ≠ r.number := fun hn => by
        rw [h.eq_of_number hx hr hn, hp] at hs
        exact nomatch hs
      refine ⟨x, ?_, rfl, rfl, hs⟩
      rw [hq]
      exact List.mem_map.mpr ⟨x, hx, if_neg hn⟩

/-! ### What leaves every running test alone -/

/-- `t` has the connections and the running tests of `s`, and a sound queue. -/
structure TestsKept (s t : State) : Prop where
  queue : t.queueSound
  banks : t.banks = s.banks
  engines : t.engines = s.engines
  slots : t.slots = s.slots
  test : ∀ p, (t.port p).state = .test ↔ (s.port p).state = .test
  runs : ∀ e n p, t.Runs e n p ↔ s.Runs e n p

/-- The queue is sound, and all agree about every test. -/
structure Tested (s : State) : Prop where
  queue : s.queueSound
  connected : s.Connected
  measured : s.Measured

namespace TestsKept

theorem refl (h : s.queueSound) : s.TestsKept s := ⟨h, rfl, rfl, rfl, fun _ => .rfl, fun _ _ _ => .rfl⟩

theorem tested (h : s.TestsKept t) (hs : s.Tested) : t.Tested := by
  have he (e : EngineId) : t.engine e = s.engine e := by simp only [engine, h.engines]
  refine ⟨h.queue, hs.connected.congr (fun b => by simp only [bank, h.banks]) h.test (fun e => ?_) fun e p => ?_,
    hs.measured.congr h.runs (fun k e n => by simp only [slot, h.slots]) (fun e n p => ?_) fun e k n => ?_⟩
  · rw [he]
    exact hs.connected.engine e
  all_goals rw [he]

/-- Blocks that tests do not depend on. -/
theorem of_testBlocks (h : s.TestsKept t) (e : u.testBlocks = t.testBlocks) : s.TestsKept u := by
  simp only [testBlocks, Prod.mk.injEq] at e
  obtain ⟨hp, hq, hn, hb, he, hk, -⟩ := e
  refine ⟨h.queue.of_eq hq hn, hb.trans h.banks, he.trans h.engines, hk.trans h.slots, fun p => ?_, fun e n p => ?_⟩
  · rw [port, hp]
    exact h.test p
  · rw [Runs, hq]
    exact h.runs e n p

theorem duePass (h : s.TestsKept t) (b : Bool) : s.TestsKept (t.duePass b) := by
  obtain ⟨hq, hb, he, hk, ht, hr⟩ := h
  exact ⟨hq, hb, he, hk, ht, hr⟩

/-- The same engine record on both sides. -/
theorem setEngine (h : s.TestsKept t) (e : EngineId) (x : Engine) : (s.setEngine e x).TestsKept (t.setEngine e x) := by
  obtain ⟨hq, hb, he, hk, ht, hr⟩ := h
  exact ⟨hq, hb, congrArg (·.set e x) he, hk, ht, hr⟩

theorem mapQueue (h : s.TestsKept t) {f : TestRecord → TestRecord}
    (hf : ∀ r, (f r).number = r.number ∧ (f r).port = r.port ∧ (f r).state = r.state) :
    s.TestsKept (t.setQueue (t.queue.map f)) :=
  ⟨h.queue.of_map (fun r => ⟨(hf r).2.1, (hf r).1⟩) rfl rfl, h.banks, h.engines, h.slots, h.test, fun e n p =>
    (runs_of_map hf rfl e n p).trans (h.runs e n p)⟩

/-- A completion of a record that no engine runs. -/
theorem completeRecord (h : s.TestsKept t) {r : TestRecord} (hr : ∀ e p, ¬s.Runs e r.number p) (x : TestOutcome)
    (q : Quad PairRecord) : s.TestsKept (t.completeRecord r x q) := by
  refine ⟨h.queue.of_sublist (by simp) (by simp), by simpa using h.banks, by simpa using h.engines,
    by simpa using h.slots, fun p => ?_, fun e n p => ?_⟩
  · by_cases hp : p = r.port
    · rw [hp, completeRecord_port_self]
      exact h.test r.port
    · rw [completeRecord_port_ne _ _ _ _ hp]
      exact h.test p
  · rw [runs_of_filter (completeRecord_queue t r x q), h.runs]
    exact and_iff_right_of_imp fun hrun hn => hr e p (hn ▸ hrun)

theorem append (h : s.TestsKept t) {r : TestRecord} (hp : t.recordOf r.port = none) (hn : r.number = t.takeNumber)
    (hs : r.state = .pending) : s.TestsKept (t.append r) :=
  ⟨h.queue.of_append hp hn rfl rfl, h.banks, h.engines, h.slots, h.test, fun e n p =>
    (runs_of_append (s := t) hs rfl e n p).trans (h.runs e n p)⟩

theorem holdNotice (h : s.TestsKept t) (p : PortId) (n : Nat) (k : Option EventKind) :
    s.TestsKept (t.holdNotice p n k) := h.of_testBlocks (by simp [testBlocks])

theorem merge (h : s.TestsKept t) (r : TestRecord) (y : Nat) : s.TestsKept (t.merge r y) := by
  unfold State.merge
  dsimp only
  split
  · refine (h.duePass true).mapQueue fun x => ?_
    split <;> exact ⟨rfl, rfl, rfl⟩
  · refine h.mapQueue fun x => ?_
    split <;> exact ⟨rfl, rfl, rfl⟩

theorem submit (h : s.TestsKept t) (p : PortId) (k : Option EventKind) : s.TestsKept (t.submit p k) := by
  unfold State.submit
  dsimp only
  split
  · exact (h.merge _ _).holdNotice p _ k
  · next hnone =>
    split
    · have ha := h.append (r := submitted (t.profile p) p t.takeNumber k) hnone rfl rfl
      have hq : s.TestsKept ((t.setNextNumber (nextTestNumber t.takeNumber)).setQueue
          (t.queue ++ [submitted (t.profile p) p t.takeNumber k])) := ha.duePass t.passDue
      exact (hq.holdNotice p t.takeNumber k).duePass true
    · have hn : s.TestsKept (t.setNextNumber (nextTestNumber t.takeNumber)) := by
        obtain ⟨hp, hnum, hr, -, -⟩ := h.queue
        obtain ⟨⟨h1, h2⟩, -⟩ := h.queue.takeNumber
        exact ⟨⟨hp, hnum, hr, nextTestNumber_mem h1 h2⟩, h.banks, h.engines, h.slots, h.test, h.runs⟩
      refine (hn.holdNotice p _ k).completeRecord (fun e p' hrun => ?_) _ _
      exact h.queue.not_runs_of_takeNumber e p' ((h.runs e _ p').mpr hrun)

/-- What the shared operations keep of a state's tests. -/
theorem changeInvariant (s : State) : ChangeInvariant s.TestsKept where
  congr h e := h.of_testBlocks e
  modPort {t p f} h hf := by
    refine ⟨h.queue, h.banks, h.engines, h.slots, fun p' => ?_, h.runs⟩
    by_cases hp : p' = p
    · rw [hp, modPort_port_self]
      exact hf.trans (h.test p)
    · rw [modPort_port_ne _ _ _ _ hp]
      exact h.test p'
  submit h := h.submit

/-- The stranded records are PENDING, so no running test is among them (R98). -/
theorem completeStranded (h : s.TestsKept t) : s.TestsKept t.completeStranded := by
  have hrec : ∀ (l : List TestRecord) (u : State), s.TestsKept u → (∀ r ∈ l, ∀ e p, ¬s.Runs e r.number p) →
      s.TestsKept (l.foldl (fun s r => s.completeRecord r .noEngine noPairs) u) := by
    intro l
    induction l with
    | nil => exact fun _ hu _ => hu
    | cons r l ih =>
      intro u hu hl
      obtain ⟨hr, hl⟩ := List.forall_mem_cons.mp hl
      exact ih _ (hu.completeRecord hr _ _) hl
  refine hrec _ t h fun r hr e p hrun => ?_
  simp only [List.mem_filter, Bool.and_eq_true, beq_iff_eq] at hr
  obtain ⟨hr, hp, -⟩ := hr
  exact h.queue.not_runs_of_pending hr hp e p ((h.runs e _ p).mpr hrun)

end TestsKept

end State
end Sys2Proof.Machine
end
section
/-! SUPPORT. The grant, the end of a test, release end and the restarts keep the tests in agreement (R83, R87, R88, R94, R96,
R142). -/

namespace Sys2Proof.Machine

/-! ### What the operations do block by block -/

/-- A port that a grant takes is in TEST (R88). -/
@[simp] theorem Port.granted_state (q : Port) : q.granted.state = .test := by
  unfold granted
  split <;> rfl

/-- A port that returns is not in TEST (R97). -/
theorem Port.returnFromTest_state_ne (r : Profile) (q : Port) : (q.returnFromTest r).state ≠ .test := by
  unfold returnFromTest
  split
  · split <;> nofun
  · nofun

/-- A warm restart neither takes a port to TEST nor out of it (R25). -/
theorem Port.SameTest.warm (r : Profile) (q : Port) : q.SameTest (q.warm r) := by
  rw [SameTest, Port.warm_eq r q _ rfl]
  cases hs : q.state <;> simp [holding, bareIn, hs]

namespace State

variable {s t : State} {r : TestRecord} {e : EngineId} {j : Job}

section Grant
variable (s r e)

theorem grantEngine_engine_self : (s.grantEngine r e).engine e = engineFor s r (s.slotFor r) := by
  rw [grantEngine_eq, setEngine_engine_self]

theorem grantEngine_engine_ne {d : EngineId} (h : d ≠ e) : (s.grantEngine r e).engine d = s.engine d := by
  rw [grantEngine_eq, setEngine_engine_ne _ _ _ _ h]
  simp [engine]

theorem grantEngine_queue : (s.grantEngine r e).queue = runRecord r.number e s.queue := by simp [grantEngine_eq]

theorem grantEngine_bank_self : (s.grantEngine r e).bank (bankOf r.port) = some ⟨r.port, e⟩ := by
  simp [grantEngine_eq, bank]

theorem grantEngine_bank_ne {b : BankId} (h : b ≠ bankOf r.port) : (s.grantEngine r e).bank b = s.bank b := by
  have hb : (s.grantEngine r e).bank b = ((s.portToTest r.port).setBank (bankOf r.port) (some ⟨r.port, e⟩)).bank b := by
    simp [grantEngine_eq, bank]
  rw [hb, setBank_bank_ne _ _ _ _ h]
  simp [bank]

theorem grantEngine_ports : (s.grantEngine r e).ports = s.ports.set r.port (s.port r.port).granted := by
  simp [grantEngine_eq, portToTest_eq]

theorem grantEngine_port_self : (s.grantEngine r e).port r.port = (s.port r.port).granted := by
  simp [port, grantEngine_ports]

theorem grantEngine_port_ne {p : PortId} (h : p ≠ r.port) : (s.grantEngine r e).port p = s.port p := by
  have hp : (s.grantEngine r e).port p = (s.setPort r.port (s.port r.port).granted).port p := by
    simp [port, grantEngine_ports]
  rw [hp, setPort_port_ne _ _ _ _ h]

theorem grantEngine_slot_claimed {k : SlotId} (h : s.slotFor r = some k) :
    (s.grantEngine r e).slot k = .filling e r.number := by
  simp [grantEngine_eq, h, claim]

theorem grantEngine_slot_ne {k : SlotId} (h : s.slotFor r ≠ some k) : (s.grantEngine r e).slot k = s.slot k := by
  rw [grantEngine_eq, setEngine_slot]
  cases hs : s.slotFor r with
  | none => simp [claim, slot]
  | some i =>
    have hk : k ≠ i := fun he => h (he ▸ hs)
    rw [claim, setSlot_slot_ne _ _ _ _ hk]
    simp [slot]

end Grant

/-- The slot a grant claims is FREE (R143). -/
theorem slot_of_slotFor {k : SlotId} (h : s.slotFor r = some k) : s.slot k = .free := by
  unfold slotFor at h
  split at h
  · exact ((freeSlot_eq_some_iff s k).mp h).1
  · exact nomatch h

/-- A settled slot fills no more (R144, R145). -/
theorem settleSlot_slot_claimed {k : SlotId} (h : j.slot = some k) (x : TestOutcome) (q : Quad PairRecord)
    (c : Quad (List Int)) (d : EngineId) (n : Nat) : (s.settleSlot j x q c).slot k ≠ .filling d n := by
  simp only [settleSlot, h]
  split <;> simp

theorem settleSlot_slot_ne {k : SlotId} (h : j.slot ≠ some k) (x : TestOutcome) (q : Quad PairRecord)
    (c : Quad (List Int)) : (s.settleSlot j x q c).slot k = s.slot k := by
  unfold settleSlot
  split
  · rfl
  · next i hi =>
    have hk : k ≠ i := fun he => h (he ▸ hi)
    split <;> exact setSlot_slot_ne _ _ _ _ hk

/-- The end of a test whose record is in the queue (R94). -/
theorem endTest_eq (hj : (s.engine e).job = some j) (hr : s.recordNumbered j.number = some r) (x : TestOutcome)
    (q : Quad PairRecord) :
    s.endTest e x q =
      (((s.setResult r.port (some (resultOf r j x q))).settleSlot j x q (s.engine e).buffer).completeRecord r x q).setEngine e
        (releasing (s.engine e) (x == .complete || x == .partnerActive) (x == .busFault)) := by
  simp only [endTest, hj, hr]

theorem endTest_slot (hj : (s.engine e).job = some j) (hr : s.recordNumbered j.number = some r) (x : TestOutcome)
    (q : Quad PairRecord) (k : SlotId) :
    (s.endTest e x q).slot k = (s.settleSlot j x q (s.engine e).buffer).slot k := by
  rw [endTest_eq hj hr, setEngine_slot, slot, completeRecord_slots]
  unfold settleSlot
  split
  · rfl
  · split <;> rfl

theorem endTest_queue (hj : (s.engine e).job = some j) (hr : s.recordNumbered j.number = some r) (x : TestOutcome)
    (q : Quad PairRecord) : (s.endTest e x q).queue = s.queue.filter (fun y => y.number != r.number) := by
  simp [endTest_eq hj hr]

theorem endTest_test (hj : (s.engine e).job = some j) (hr : s.recordNumbered j.number = some r) (x : TestOutcome)
    (q : Quad PairRecord) (p : PortId) : ((s.endTest e x q).port p).state = (s.port p).state := by
  have hp (l : State) (hl : l.ports = s.ports) : ((l.completeRecord r x q).port p).state = (s.port p).state := by
    have he (p : PortId) : l.port p = s.port p := by rw [port, hl, port]
    by_cases hpr : p = r.port
    · rw [hpr, completeRecord_port_self, he]
      rfl
    · rw [completeRecord_port_ne _ _ _ _ hpr, he]
  rw [endTest_eq hj hr, setEngine_port]
  exact hp _ (by simp)

/-! ### Each change keeps the agreement -/

namespace Tested

/-- The record of a measuring engine's job (R87). -/
theorem job_of_measuring (h : s.Tested) (hm : (s.engine e).state.measuring = true) :
    ∃ j r, (s.engine e).job = some j ∧ r ∈ s.queue ∧ r.number = j.number ∧ r.state = .running e ∧
      s.recordNumbered j.number = some r := by
  obtain ⟨j, hj⟩ := (h.connected.engine e).job_of_measuring hm
  obtain ⟨r, hr, hn, -, hs⟩ := (h.measured.runs e j.number j.port).mpr ⟨hm, j, hj, rfl, rfl⟩
  exact ⟨j, r, hj, hr, hn, hs, hn ▸ h.queue.recordNumbered_eq hr⟩

/-- An engine record that stands for the same. -/
theorem setEngine (h : s.Tested) {x : Engine} (hx : x.Sound e) (hj : x.job = (s.engine e).job)
    (hm : x.state.measuring = (s.engine e).state.measuring) : (s.setEngine e x).Tested := by
  have hserves (d : EngineId) (p : PortId) : ((s.setEngine e x).engine d).Serves p ↔ (s.engine d).Serves p := by
    by_cases hd : d = e
    · rw [hd, setEngine_engine_self, Engine.Serves, Engine.Serves, hj]
    · rw [setEngine_engine_ne _ _ _ _ hd]
  have hmeasures (d : EngineId) (n : Nat) (p : PortId) :
      ((s.setEngine e x).engine d).Measures n p ↔ (s.engine d).Measures n p := by
    by_cases hd : d = e
    · rw [hd, setEngine_engine_self, Engine.Measures, Engine.Measures, hj, hm]
    · rw [setEngine_engine_ne _ _ _ _ hd]
  have hclaims (d : EngineId) (k : SlotId) (n : Nat) :
      ((s.setEngine e x).engine d).Claims k n ↔ (s.engine d).Claims k n := by
    by_cases hd : d = e
    · rw [hd, setEngine_engine_self, Engine.Claims, Engine.Claims, hj, hm]
    · rw [setEngine_engine_ne _ _ _ _ hd]
  refine ⟨h.queue.of_eq rfl rfl, h.connected.congr (fun _ => rfl) (fun _ => .rfl) (fun d => ?_) hserves,
    h.measured.congr (fun _ _ _ => .rfl) (fun _ _ _ => .rfl) hmeasures hclaims⟩
  by_cases hd : d = e
  · rw [hd, setEngine_engine_self]
    exact hx
  · rw [setEngine_engine_ne _ _ _ _ hd]
    exact h.connected.engine d

/-- A grant connects an IDLE engine to the port of an idle bank, and starts its measurement (R87, R88, R143). -/
theorem grantEngine (h : s.Tested) (hr : r ∈ s.queue) (hp : r.state = .pending) (hb : s.bank (bankOf r.port) = none)
    (hreach : reaches e (bankOf r.port) = true) (hi : (s.engine e).state = .idle) : (s.grantEngine r e).Tested := by
  have hnone := (h.connected.engine e).job_of_idle hi
  have hstill : (s.engine e).state.measuring = false := by rw [hi]; rfl
  have hself := s.grantEngine_engine_self r e
  have hjob : (engineFor s r (s.slotFor r)).job = some
      { port := r.port, number := r.number, reach := r.reach, avg := r.avg, capture := r.capture, slot := s.slotFor r,
        snap := snapshotOf (s.profile r.port) } := rfl
  refine ⟨?_, ?_, ?_⟩
  · refine h.queue.of_map (fun x => ?_) (s.grantEngine_queue r e) (by simp)
    split <;> exact ⟨rfl, rfl⟩
  · refine h.connected.connect hnone hb ?_ (fun p' => ?_) (fun d => s.grantEngine_engine_ne r e)
      (s.grantEngine_bank_self r e) (fun b => s.grantEngine_bank_ne r e) ?_ fun p' hp' => ?_
    · rw [hself]
      exact Engine.sound_of_job hjob hreach (.inl rfl)
    · rw [hself]
      exact Engine.serves_iff hjob p'
    · rw [grantEngine_port_self, Port.granted_state]
    · rw [s.grantEngine_port_ne r e hp']
  · refine h.measured.of_engine (fun d => s.grantEngine_engine_ne r e) (fun n p => ?_) (fun d hd n p => ?_)
      (fun k n => ?_) fun d hd k n => ?_
    · rw [h.queue.runs_of_runRecord hr hp (s.grantEngine_queue r e), hself, Engine.measures_iff rfl hjob,
        h.measured.runs, or_iff_left (Engine.not_measures hstill n p)]
      exact and_iff_right rfl
    · rw [h.queue.runs_of_runRecord hr hp (s.grantEngine_queue r e)]
      exact or_iff_right fun hc => hd hc.1
    · rw [hself, Engine.claims_iff rfl hjob]
      by_cases hk : s.slotFor r = some k
      · rw [s.grantEngine_slot_claimed r e hk]
        simp [hk]
      · rw [s.grantEngine_slot_ne r e hk, h.measured.slot]
        exact iff_of_false (Engine.not_claims hstill k n) fun hc => hk hc.1
    · by_cases hk : s.slotFor r = some k
      · rw [s.grantEngine_slot_claimed r e hk, slot_of_slotFor hk]
        simp [Ne.symm hd]
      · rw [s.grantEngine_slot_ne r e hk]

/-- What leaves the tests alone. -/
theorem kept (h : s.Tested) (hk : s.TestsKept s → s.TestsKept t) : t.Tested := (hk (.refl h.queue)).tested h

theorem completeRecord (h : s.Tested) (hr : r ∈ s.queue) (hp : r.state = .pending) (x : TestOutcome)
    (q : Quad PairRecord) : (s.completeRecord r x q).Tested :=
  h.kept fun hk => hk.completeRecord (h.queue.not_runs_of_pending hr hp) x q

theorem grantPass (h : s.Tested) : s.grantPass.Tested := by
  refine passFuel_rec (P := Tested) (fun t r e hc he ht => ?_) _ _ h
  obtain ⟨hr, hch⟩ := choice_mem hc
  obtain ⟨hp, hb, -⟩ := (t.choosable_iff r).mp hch
  obtain ⟨⟨hreach, hi⟩, -⟩ := (t.idleEngine_eq_some_iff _ e).mp he
  unfold State.grant
  split
  · exact ht.completeRecord hr hp _ _
  · exact ht.grantEngine hr hp hb hreach hi

theorem duePass (h : s.Tested) (b : Bool) : (s.duePass b).Tested := h.kept fun hk => hk.duePass b

theorem settle (h : s.Tested) : s.settle.Tested := by
  unfold State.settle
  split
  · exact (h.duePass false).grantPass
  · exact h

/-- A test's end takes its record and its claim, and leaves the connection for RELEASE (R94, R144, R145). -/
theorem endTest (h : s.Tested) (hm : (s.engine e).state.measuring = true) (x : TestOutcome) (q : Quad PairRecord) :
    (s.endTest e x q).Tested := by
  obtain ⟨j, r, hj, hr, hn, hrun, hnum⟩ := h.job_of_measuring hm
  have hself := s.endTest_engine_self e x q
  have hstill : ((s.endTest e x q).engine e).state.measuring = false := by rw [hself]; rfl
  have hruns := runs_of_filter (s := s) (endTest_queue hj hnum x q)
  have hslot := endTest_slot hj hnum x q
  refine ⟨h.queue.of_sublist (by simp [endTest_queue hj hnum]) (by simp), ?_, ?_⟩
  · refine h.connected.congr (fun b => by simp [bank]) (fun p => by rw [endTest_test hj hnum]) (fun d => ?_) fun d p => ?_
    · by_cases hd : d = e
      · rw [hd, hself]
        exact Engine.sound_of_job hj ((h.connected.engine e).reaches hj) (.inr (.inl rfl))
      · rw [s.endTest_engine_ne hd]
        exact h.connected.engine d
    · by_cases hd : d = e
      · rw [hd, hself]
        exact .rfl
      · rw [s.endTest_engine_ne hd]
  · refine h.measured.of_engine (fun d hd => s.endTest_engine_ne hd x q) (fun n p => ?_) (fun d hd n p => ?_)
      (fun k n => ?_) fun d hd k n => ?_
    · rw [hruns, h.measured.runs, Engine.measures_iff hm hj, hn]
      exact iff_of_false (fun hc => hc.1 hc.2.1.symm) (Engine.not_measures hstill n p)
    · rw [hruns]
      refine and_iff_right_of_imp ?_
      rintro ⟨y, hy, rfl, -, hs⟩ hyn
      rw [h.queue.eq_of_number hy hr hyn, hrun] at hs
      exact hd (RecordState.running.inj hs).symm
    · refine iff_of_false (fun hf => ?_) (Engine.not_claims hstill k n)
      rw [hslot] at hf
      by_cases hk : j.slot = some k
      · exact settleSlot_slot_claimed hk _ _ _ _ _ hf
      · rw [settleSlot_slot_ne hk, h.measured.slot, Engine.claims_iff hm hj] at hf
        exact hk hf.1
    · rw [hslot]
      by_cases hk : j.slot = some k
      · have hf : s.slot k = .filling e j.number := (h.measured.slot k e _).mpr ((Engine.claims_iff hm hj _ _).mpr ⟨hk, rfl⟩)
        refine iff_of_false (settleSlot_slot_claimed hk _ _ _ _ _) fun hc => hd ?_
        exact (Slot.filling.inj (hc.symm.trans hf)).1
      · rw [settleSlot_slot_ne hk]

/-- The connection cleared, bank, port and engine together (R96, R97). -/
theorem disconnect (h : s.Tested) (hs : (s.engine e).state = .release) (hj : (s.engine e).job = some j) {x : Engine}
    (hx : x.Sound e) (hn : x.job = none) (hstill : x.state.measuring = false) (r : Profile) :
    (((s.setBank (bankOf j.port) none).modPort j.port (Port.returnFromTest r)).setEngine e x).Tested := by
  have hold : (s.engine e).state.measuring = false := by rw [hs]; rfl
  refine ⟨h.queue.of_eq rfl rfl, ?_, ?_⟩
  · refine h.connected.disconnect (p := j.port) ⟨j, hj, rfl⟩ (fun p' hp' => ((Engine.serves_iff hj p').mp hp').symm) ?_ ?_
      (fun d => setEngine_engine_ne _ e x d) (setBank_bank_self s _ none) (setBank_bank_ne s _ none) ?_ fun p' hp' => ?_
    · rwa [setEngine_engine_self]
    · rwa [setEngine_engine_self]
    · rw [setEngine_port, modPort_port_self]
      exact Port.returnFromTest_state_ne r _
    · rw [setEngine_port, modPort_port_ne _ _ _ _ hp', setBank_port]
  · refine h.measured.congr (fun _ _ _ => .rfl) (fun _ _ _ => .rfl) (fun d n p => ?_) fun d k n => ?_
    all_goals
      by_cases hd : d = e
      · subst hd
        rw [setEngine_engine_self]
        simp [Engine.Measures, Engine.Claims, hold, hstill]
      · rw [setEngine_engine_ne _ _ _ _ hd]
        exact .rfl

/-- Release end: the port's change, the report and the stranded records leave what is left of the tests (R96 to R98). -/
theorem releaseEnd (h : s.Tested) (hs : (s.engine e).state = .release) : (s.releaseEnd e).Tested := by
  obtain ⟨j, hj⟩ := (h.connected.engine e).job_of_release hs
  have hq : ((s.setBank (bankOf j.port) none).modPort j.port (Port.returnFromTest (s.profile j.port))).queueSound :=
    h.queue.of_eq rfl rfl
  have hport : State.TestsKept _ (s.freePort j.port) := (TestsKept.changeInvariant _).change_of_modPort (.refl hq) []
  have hfree {x : Engine} (hx : x.Sound e) (hn : x.job = none) (hm : x.state.measuring = false) :
      ((s.freePort j.port).setEngine e x).Tested :=
    (hport.setEngine e x).tested (h.disconnect hs hj hx hn hm _)
  have hall : ((s.freePort j.port).freeEngine e).Tested := by
    unfold State.freeEngine
    dsimp only
    split
    · exact (hfree (x := { coldEngine with state := .outOfService }) ⟨rfl, rfl, rfl⟩ rfl rfl).kept fun hk =>
        (hk.of_testBlocks (by rfl)).completeStranded
    · exact hfree ⟨rfl, rfl, rfl⟩ rfl rfl
  simp only [State.releaseEnd, hj]
  exact (hall.duePass false).grantPass

/-- A slot that no engine fills may be freed (R149). -/
theorem freeHeld (h : s.Tested) {k : SlotId} {x : TraceHeader} {c : Quad (List Int)} (hk : s.slot k = .held x c) :
    (s.setSlot k .free).Tested := by
  refine ⟨h.queue.of_eq rfl rfl, h.connected.congr (fun _ => rfl) (fun _ => .rfl) h.connected.engine fun _ _ => .rfl,
    h.measured.congr (fun _ _ _ => .rfl) (fun i e n => ?_) (fun _ _ _ => .rfl) fun _ _ _ => .rfl⟩
  by_cases hi : i = k
  · rw [hi, setSlot_slot_self, hk]
    exact iff_of_false nofun nofun
  · rw [setSlot_slot_ne _ _ _ _ hi]

/-- After reset nothing is tested. -/
theorem reset : State.reset.Tested := by
  obtain ⟨-, -, -, -, hq, -, -, -, -, ht, -⟩ := resetMeetsTheInvariants
  obtain ⟨hc, hm⟩ := (testsSound_iff _).mp ht
  exact ⟨hq, hc, hm⟩

/-- A cold start is as a reset for tests. -/
theorem coldStart (s : State) (c : RestartCause) : (s.coldStart c).Tested := by
  have hk : State.reset.TestsKept (s.coldStart c) := by
    refine ⟨reset.queue.of_eq rfl rfl, rfl, rfl, rfl, fun p => ?_, fun _ _ _ => .rfl⟩
    rw [reset_port, port, State.coldStart, coldStart_ports]
    simp [coldPort]
  exact hk.tested reset

/-- A warm restart with no engine measuring leaves the connections in RELEASE and nothing else of the tests (R101, R150). -/
theorem warmBlocks (h : s.Tested) (hm : ∀ e, (s.engine e).state.measuring = false) : s.warmBlocks.Tested := by
  have hport (p : PortId) : s.warmBlocks.port p = (s.port p).warm (s.profile p) := by simp [port, State.warmBlocks]
  have hstill (e : EngineId) : (s.warmBlocks.engine e).state.measuring = false := by
    rw [warmBlocks_engine]
    exact hm e
  obtain ⟨-, -, -, h1, h2⟩ := h.queue
  refine ⟨⟨List.nodup_nil, List.nodup_nil, nofun, h1, h2⟩, ?_, ⟨fun e n p => ?_, fun k e n => ?_⟩⟩
  · refine h.connected.congr (fun _ => rfl) (fun p => ?_) (fun e => ?_) fun e p => ?_
    · rw [hport]
      exact Port.SameTest.warm _ _
    · rw [warmBlocks_engine]
      exact (h.connected.engine e).of_job rfl rfl rfl rfl fun _ => rfl
    · rw [warmBlocks_engine]
      simp [Engine.Serves, Engine.unclaimed]
  · exact iff_of_false (by rintro ⟨r, hr, -⟩; exact nomatch hr) (Engine.not_measures (hstill e) n p)
  · refine iff_of_false (fun hf => ?_) (Engine.not_claims (hstill e) k n)
    simp [slot, State.warmBlocks] at hf

/-- Every shared operation keeps the tests in agreement. -/
theorem commandInvariant : CommandInvariant Tested where
  congr h e := h.kept fun hk => hk.of_testBlocks e
  modPort {s _ _} h hf := h.kept fun hk => (TestsKept.changeInvariant s).modPort hk hf
  submit h p k := h.kept fun hk => hk.submit p k
  append h hp hn hs := h.kept fun hk => hk.append hp hn hs
  complete h hr hp x q := h.completeRecord hr hp x q
  age h n := h.kept fun hk => hk.mapQueue fun r => by split <;> exact ⟨rfl, rfl, rfl⟩
  grantPass h := h.grantPass
  settle h := h.settle
  measure {s e x} h hm hx hj hs := by
    obtain ⟨j, hjob⟩ := (h.connected.engine e).job_of_measuring hm
    refine h.setEngine (Engine.sound_of_job (hj.trans hjob) ((h.connected.engine e).reaches hjob) ?_) hj (hx.trans hm.symm)
    exact hs.imp_right fun hmeas => .inr ⟨hx, hmeas⟩
  endTest h hm := h.endTest hm
  restore {s e} h hs := by
    have hx := h.connected.engine e
    simp only [Engine.Sound, hs] at hx
    exact (h.setEngine (x := { s.engine e with state := .idle }) hx rfl (by simp only [hs]; rfl)).grantPass
  releaseEnd h hs := h.releaseEnd hs
  freeHeld h hk := h.freeHeld hk
  coldStart := coldStart
  warmBlocks h hm := h.warmBlocks hm

end Tested
end State

/-- Settles O56: the agreement read from the engines' side is kept by every shared operation, so by every command. -/
theorem stepKeepsTheTests : Obligations.StepKeepsTheTests := by
  intro s t hq hs ht
  obtain ⟨hc, hm⟩ := (s.testsSound_iff).mp hs
  have hl := State.Tested.commandInvariant.leaves_step ⟨hq, hc, hm⟩ ht
  exact (t.testsSound_iff).mpr ⟨hl.keeps.connected, hl.keeps.measured⟩

end Sys2Proof.Machine
end
section
/-! SUPPORT. The pair records a test ends with, the bus check, the end of a pair and of a test, release end and
RESTORE_ENGINE (R92 to R99, R103, R112, R114, R137 to R139, R144, R145). -/

namespace Sys2Proof.Machine

/-! ### The four pair records (R112, R138) -/

theorem quad_eq_of_quadGet {α : Type} {q r : Quad α} (h : ∀ y, quadGet q y = quadGet r y) : q = r := by
  have ha : q.a = r.a := h .a
  have hb : q.b = r.b := h .b
  have hc : q.c = r.c := h .c
  have hd : q.d = r.d := h .d
  cases q
  simp_all

@[simp] theorem quadGet_pairsFrom (done : List PairRecord) (y : Pair) : quadGet (pairsFrom done) y = pairFrom done y := by
  cases y <;> rfl

theorem quadGet_quadZip {α β γ : Type} (f : α → β → γ) (q : Quad α) (r : Quad β) (y : Pair) :
    quadGet (quadZip f q r) y = f (quadGet q y) (quadGet r y) := by
  cases y <;> rfl

/-- Four finished pairs are all there is. -/
theorem pairsFrom_of_labels {q : Quad PairRecord} (h : ∀ y, (quadGet q y).pair = y) :
    pairsFrom [q.a, q.b, q.c, q.d] = q := by
  have ha : q.a.pair = .a := h .a
  have hb : q.b.pair = .b := h .b
  have hc : q.c.pair = .c := h .c
  have hd : q.d.pair = .d := h .d
  simp [pairsFrom, pairFrom, ha, hb, hc, hd]

theorem nextPair_eq_some {y z : Pair} (h : z.code = y.code + 1) : nextPair y = some z := by
  revert h
  cases y <;> cases z <;> decide

/-- A test of four finished pairs is PARTNER_ACTIVE just when all are NOISY (R114). -/
theorem outcomeOf_eq {q : Quad PairRecord} {x : TestOutcome} (hx : x = .partnerActive ∨ x = .complete)
    (h : x = .partnerActive ↔ ∀ y, (quadGet q y).cls = .noisy) : outcomeOf q = x := by
  have hall : (∀ y, (quadGet q y).cls = .noisy) ↔
      q.a.cls = .noisy ∧ q.b.cls = .noisy ∧ q.c.cls = .noisy ∧ q.d.cls = .noisy :=
    ⟨fun hn => ⟨hn .a, hn .b, hn .c, hn .d⟩, fun ⟨ha, hb, hc, hd⟩ y => by cases y <;> assumption⟩
  rw [hall] at h
  unfold outcomeOf
  rcases hx with rfl | rfl
  · exact if_pos (h.mp rfl)
  · exact if_neg fun hn => nomatch h.mpr hn

namespace State

variable {s : State} {e : EngineId}

theorem exec_busCheckPass (s : State) (e : EngineId) : exec (.busCheckPass e) s = .next (s.busPass e) := rfl

theorem exec_busCheckFail (s : State) (e : EngineId) : exec (.busCheckFail e) s = .next (s.busFail e) := rfl

theorem finishPair_of_next {r : PairRecord} {z : Pair} (h : nextPair r.pair = some z) :
    s.finishPair e r = s.setEngine e { s.engine e with
      state := .listen, meas := some (startPair z), finished := (s.engine e).finished ++ [r] } := by
  simp only [finishPair, h]

theorem finishPair_of_last {r : PairRecord} (h : nextPair r.pair = none) :
    s.finishPair e r =
      (s.setEngine e { s.engine e with finished := (s.engine e).finished ++ [r] }).endTest e
        (outcomeOf (pairsFrom ((s.engine e).finished ++ [r]))) (pairsFrom ((s.engine e).finished ++ [r])) := by
  simp only [finishPair, h]

end State

/-- Settles O44: the bus check by the engine's state, the end of a pair by whether there is a next one. -/
theorem busChecksAndPairEnds : Obligations.BusChecksAndPairEnds := by
  rintro s e x rfl start rfl
  refine ⟨fun hc => ⟨?_, ?_⟩, fun hc => ⟨?_, ?_⟩, fun y z r hr hz => ?_, fun r q outcome hr hf hq hd ho hn => ?_⟩
  · rw [State.exec_busCheckPass, State.busPass, if_pos hc]
    rfl
  · rw [State.exec_busCheckFail, State.busFail, if_pos hc]
    rfl
  · rw [State.exec_busCheckPass, State.busPass, if_neg hc]
  · rw [State.exec_busCheckFail, State.busFail, if_neg hc]
  · exact State.finishPair_of_next (nextPair_eq_some (hr ▸ hz))
  · have hdone : pairsFrom ((s.engine e).finished ++ [r]) = q := by
      rw [hf, ← hd]
      exact pairsFrom_of_labels hq
    rw [State.finishPair_of_last (hr ▸ rfl), hdone, outcomeOf_eq ho hn]

/-! ### The end of a test (R93 to R95, R139, R144, R145) -/

theorem dispositionOf_eq {j : Job} {x : TestOutcome} {kept : Bool}
    (hk : kept = true ↔ x = .complete ∨ x = .partnerActive) :
    dispositionOf j x = match j.capture, j.slot with
      | false, _ => .notRequested
      | true, none => .traceNone
      | true, some _ => if kept then .held else .discarded := by
  unfold dispositionOf
  simp only [← hk]
  cases j.capture <;> cases j.slot <;> rfl

/-- A trace is kept just at COMPLETE and PARTNER_ACTIVE. -/
theorem kept_eq {x : TestOutcome} {kept : Bool} (hk : kept = true ↔ x = .complete ∨ x = .partnerActive) :
    (x == .complete || x == .partnerActive) = kept := by
  rw [Bool.eq_iff_iff, hk, Bool.or_eq_true, beq_iff_eq, beq_iff_eq]

/-- Each pair of a trace header has the pair record's reach and its list's length (R144). -/
theorem headerOf_pair (j : Job) {pairs : Quad PairRecord} (c : Quad (List Int)) {y : Pair} {m : Measured}
    (h : (quadGet pairs y).measured = some m) :
    quadGet (headerOf j pairs c).pairs y = { reach := m.reach, count := (quadGet c y).length } := by
  rw [headerOf, quadGet_quadZip, tracePair, h]
  rfl

theorem State.settleSlot_eq (s : State) (j : Job) {x : TestOutcome} {kept : Bool}
    (hk : kept = true ↔ x = .complete ∨ x = .partnerActive) (q : Quad PairRecord) (c : Quad (List Int)) :
    s.settleSlot j x q c = { s with slots := match j.slot with
      | none => s.slots
      | some k => s.slots.set k (if kept then .held (headerOf j q c) c else .free) } := by
  unfold settleSlot
  simp only [← hk]
  cases j.slot with
  | none => rfl
  | some k => cases kept <;> rfl

/-- An abort of a measuring engine ends its test with the finished pairs (R95, R115). -/
theorem State.abort_eq {s : State} {e : EngineId} {pairs : Quad PairRecord} (hm : (s.engine e).state.measuring = true)
    (hp : ∀ y, quadGet pairs y = pairFrom (s.engine e).finished y) : s.abort e = s.endTest e .aborted pairs := by
  have hq : pairsFrom (s.engine e).finished = pairs := quad_eq_of_quadGet fun y => by rw [quadGet_pairsFrom, hp]
  rw [abort, if_pos hm, hq]

/-- Settles O28: the end by `State.endTest_eq` with the record that the number finds, the abort by the engine's state. -/
theorem testEndSteps : Obligations.TestEndSteps := by
  rintro s e x rfl hs
  refine ⟨fun outcome pairs j r d kept t hj hr hn hk hd ht => ⟨?_, rfl, rfl, fun y m => headerOf_pair j _⟩, fun h => ?_,
    fun pairs h hp => State.abort_eq ?_ fun y => ?_⟩
  · have hdisp : dispositionOf j outcome = d := (dispositionOf_eq hk).trans hd.symm
    have hfault : (outcome == .busFault) = decide (outcome = .busFault) := by cases outcome <;> rfl
    rw [State.endTest_eq hj (hn ▸ hs.recordNumbered_eq hr), State.settleSlot_eq _ _ hk, releasing, kept_eq hk, hfault, ht,
      resultOf, hdisp]
    rfl
  · refine if_neg ?_
    rcases h with h | h | h <;> simp [h, EngineState.measuring]
  · rcases h with h | h | h | h <;> rw [h] <;> rfl
  · have hfind : (s.engine e).finished.find? (fun z => z.pair == y) =
        (s.engine e).finished.find? (fun z => decide (z.pair = y)) := rfl
    rw [hp, pairFrom, hfind]
    cases (s.engine e).finished.find? (fun z => decide (z.pair = y)) <;> rfl

/-! ### Release end and RESTORE_ENGINE (R96 to R99) -/

/-- The port's return, written out (R35, R97). -/
theorem Port.returnFromTest_eq (r : Profile) (q : Port) :
    q.returnFromTest r =
      if q.enabled = false then q.bareIn .disabled
      else if q.returnToStall = true then { q.bareIn .stalled with stallCause := q.stallCause, absence := !q.energy }
      else q.holding r.holdoffMs := by
  unfold returnFromTest
  cases q.enabled <;> cases q.returnToStall <;> rfl

/-- The records a withdrawal strands are those of banks that no engine in service reaches (R82, R98). -/
theorem State.completeStranded_eq (s : State) :
    s.completeStranded = (s.queue.filter (fun r => decide (r.state = .pending ∧
      ∀ d, reaches d (bankOf r.port) = true → (s.engine d).state = .outOfService))).foldl
        (fun v r => v.completeRecord r .noEngine noPairs) s := by
  unfold completeStranded
  congr 2
  funext r
  have hb : s.bankReached (bankOf r.port) = false ↔
      ∀ d, reaches d (bankOf r.port) = true → (s.engine d).state = .outOfService := by
    rw [← Bool.not_eq_true, bankReached_iff]
    simp
  rw [Bool.eq_iff_iff, Bool.and_eq_true, beq_iff_eq, Bool.not_eq_true', hb, decide_eq_true_iff]

namespace State

variable {s t : State} {e : EngineId} {j : Job}

theorem releaseEnd_of_job (hj : (s.engine e).job = some j) :
    s.releaseEnd e = (((s.freePort j.port).freeEngine e).duePass false).grantPass := by
  simp only [releaseEnd, hj]

/-- Release end acts in RELEASE (R96). -/
theorem exec_releaseEnd (s : State) (e : EngineId) :
    exec (.releaseEnd e) s = .next (if (s.engine e).state = .release then s.releaseEnd e else s) := rfl

end State

/-- The engine numbers are 1 to 4. -/
theorem engineOf_eq_none_iff {b : Byte} : engineOf b = none ↔ b.toNat = 0 ∨ 4 < b.toNat := by
  unfold engineOf
  split <;> simp <;> omega

theorem engineOf_eq_some {b : Byte} {e : EngineId} (h : b.toNat = e.val + 1) : engineOf b = some e := by
  unfold engineOf
  rw [dif_pos (by omega)]
  exact congrArg some (Fin.ext (by simp [h]))

/-- Settles O50: release end by `State.exec_releaseEnd` and the pending fault, RESTORE_ENGINE by the engine's number. -/
theorem enginesLeaveAndReturn : Obligations.EnginesLeaveAndReturn := by
  refine ⟨?_, fun s tag engine hl => ⟨fun h => ?_, fun e t he ht => ?_⟩⟩
  · rintro s e x rfl
    refine ⟨fun hs => by rw [State.exec_releaseEnd, if_neg hs], fun j q f t hs hj hq hf ht => ?_⟩
    have hport : s.freePort j.port = t := by
      rw [ht, hf, hq, ← Port.returnFromTest_eq]
      rfl
    have hrun : exec (.releaseEnd e) s = .next ((t.freeEngine e).duePass false).grantPass := by
      rw [State.exec_releaseEnd, if_pos hs, State.releaseEnd_of_job hj, hport]
    have hpending : (t.engine e).faultPending = (s.engine e).faultPending := by
      rw [← hport]
      simp [State.engine]
    refine ⟨fun hfault => ?_, fun u lost hfault hu hlost => ?_⟩
    · rw [hrun, State.freeEngine, if_neg (by simp [hpending, hfault])]
      rfl
    · rw [hrun, State.freeEngine, if_pos (by rw [hpending, hfault]), hlost, hu]
      dsimp only
      rw [State.completeStranded_eq]
      rfl
  · have hn : engineOf engine = none := engineOf_eq_none_iff.mpr h
    rw [exec_request_of_lineFree hl (r := .restoreEngine engine) rfl rfl, own, ownRestoreEngine, hn]
    rfl
  · rw [exec_request_of_lineFree hl (r := .restoreEngine engine) rfl rfl, own, ownRestoreEngine, engineOf_eq_some he, ht]
    rfl

end Sys2Proof.Machine
end
section
/-! SUPPORT. One pair's measurement: listen attempts, launches and the analysis (R102 to R113, R117, R130). -/

namespace Sys2Proof.Machine

/-! ### Quads -/

theorem quadGet_quadSet {α : Type} (q : Quad α) (x : Pair) (v : α) (y : Pair) :
    quadGet (quadSet q x v) y = if y = x then v else quadGet q y := by
  cases x <;> cases y <;> rfl

theorem quadMap_eq {α β : Type} {f : α → β} {q : Quad α} {r : Quad β} (h : ∀ y, f (quadGet q y) = quadGet r y) :
    quadMap f q = r :=
  quad_eq_of_quadGet fun y => by rw [← h y]; cases y <;> rfl

/-! ### What an attempt's samples amount to (R104) -/

theorem listenFits_iff {q : Quad (List Sample)} : listenFits q = true ↔ ∀ y, (quadGet q y).length = 16 := by
  simp only [listenFits, Bool.and_eq_true, decide_eq_true_eq]
  exact ⟨fun ⟨⟨⟨ha, hb⟩, hc⟩, hd⟩ y => by cases y <;> assumption, fun h => ⟨⟨⟨h .a, h .b⟩, h .c⟩, h .d⟩⟩

theorem firstSamples_length (c : List Sample) : firstSamples c.length c = c.map BitVec.toInt := by
  induction c with
  | nil => rfl
  | cons x rest ih => exact congrArg (x.toInt :: ·) ih

theorem firstSamples_of_length {n : Nat} {c : List Sample} (h : c.length = n) :
    firstSamples n c = c.map BitVec.toInt := h ▸ firstSamples_length c

theorem total_eq_sum (c : List Int) : total c = c.sum := by
  induction c with
  | nil => rfl
  | cons x rest ih => rw [total, ih, List.sum_cons]

theorem baselineOf_eq {c : List Sample} (hc : c.length = 16) {b : Int}
    (h : 16 * b ≤ (c.map BitVec.toInt).sum ∧ (c.map BitVec.toInt).sum < 16 * b + 16) : baselineOf c = b := by
  rw [baselineOf, firstSamples_of_length hc, total_eq_sum]
  omega

theorem largest_eq_foldl (c : List Int) (m : Int) : largest m c = c.foldl max m := by
  induction c generalizing m with
  | nil => rfl
  | cons x rest ih => exact ih (max m x)

theorem smallest_eq_foldl (c : List Int) (m : Int) : smallest m c = c.foldl min m := by
  induction c generalizing m with
  | nil => rfl
  | cons x rest ih => exact ih (min m x)

theorem largest_eq {m hi : Int} {c : List Int} (hmem : hi ∈ m :: c) (hle : ∀ v ∈ m :: c, v ≤ hi) : largest m c = hi := by
  rw [largest_eq_foldl, ← Option.some.injEq, ← List.max?_cons']
  exact List.max?_eq_some_iff.mpr ⟨hmem, hle⟩

theorem smallest_eq {m lo : Int} {c : List Int} (hmem : lo ∈ m :: c) (hle : ∀ v ∈ m :: c, lo ≤ v) :
    smallest m c = lo := by
  rw [smallest_eq_foldl, ← Option.some.injEq, ← List.min?_cons']
  exact List.min?_eq_some_iff.mpr ⟨hmem, hle⟩

/-- The spread of 16 samples is the distance of two of them between which all lie. -/
theorem spreadOf_eq {c : List Sample} (hc : c.length = 16) {n : Nat}
    (h : ∃ hi ∈ c, ∃ lo ∈ c, (n : Int) = hi.toInt - lo.toInt ∧ ∀ v ∈ c, lo.toInt ≤ v.toInt ∧ v.toInt ≤ hi.toInt) :
    spreadOf c = n := by
  obtain ⟨hi, hhi, lo, hlo, hn, hv⟩ := h
  obtain ⟨x, rest, rfl⟩ := List.exists_cons_of_length_eq_add_one hc
  have hmax : largest x.toInt (rest.map BitVec.toInt) = hi.toInt :=
    largest_eq (List.mem_map_of_mem hhi) (by simpa using fun v hm => (hv v hm).2)
  have hmin : smallest x.toInt (rest.map BitVec.toInt) = lo.toInt :=
    smallest_eq (List.mem_map_of_mem hlo) (by simpa using fun v hm => (hv v hm).1)
  simp only [spreadOf, firstSamples_of_length hc, List.map_cons, hmax, hmin]
  omega

/-! ### Listening (R105, R106) -/

namespace State

variable {s : State} {e : EngineId} {j : Job} {m : Meas}

theorem exec_listenAttemptEnd (s : State) (e : EngineId) (c : Quad (List Sample)) :
    exec (.listenAttemptEnd e c) s = .next (s.listenEnd e c) := rfl

theorem exec_listenWaitEnd (s : State) (e : EngineId) : exec (.listenWaitEnd e) s = .next (s.listenWaitEnd e) := rfl

theorem listenWaitEnd_of_waiting (hs : (s.engine e).state = .listen) (hm : (s.engine e).meas = some m)
    (hw : m.waiting = true) :
    s.listenWaitEnd e =
      s.setEngine e { s.engine e with meas := some { m with waiting := false, attempt := m.attempt + 1 } } := by
  simp only [listenWaitEnd, hs, hm, hw, if_true]

/-- What an attempt's end makes of the spread (R105, R106). -/
theorem listenEnd_of_listen (hs : (s.engine e).state = .listen) (hj : (s.engine e).job = some j)
    (hm : (s.engine e).meas = some m) {c : Quad (List Sample)} {n : Nat} (hn : spreadOf (quadGet c m.pair) = n) :
    s.listenEnd e c =
      if m.waiting then s
      else if n ≤ j.snap.noiseLimit then
        s.setEngine e { s.engine e with state := .pulse, meas := some (listenPassed j.reach m c) }
      else if m.attempt < 4 then s.setEngine e { s.engine e with meas := some (listenFailed m c) }
      else
        (s.setEngine e { s.engine e with meas := some { m with spread := some n } }).finishPair e
          (noisyPair j.reach m n) := by
  simp only [listenEnd, hs, hj, hm, hn]

end State

/-- Settles O45: the baselines and the spread that the samples fix, then the branches of `State.listenEnd_of_listen`. -/
theorem listenAttempts : Obligations.ListenAttempts := by
  rintro s e x j m samples base spread reach rfl hs hj hm hfit hbase hspread hreach
  have hlen := listenFits_iff.mp hfit
  have hn : spreadOf (quadGet samples m.pair) = spread := spreadOf_eq (hlen m.pair) hspread
  have hb : quadMap baselineOf samples = base := quadMap_eq fun y => baselineOf_eq (hlen y) (hbase y)
  have hr : runReach j.reach .first = reach := by
    rw [hreach]
    cases j.reach <;> rfl
  have hend := State.listenEnd_of_listen hs hj hm hn
  refine ⟨fun hw => ⟨?_, ?_⟩, fun hw hle => ?_, fun hw hlt ha => ?_, fun hw hlt ha => ?_⟩
  · rw [State.exec_listenAttemptEnd, hend, if_pos hw]
  · rw [State.exec_listenWaitEnd, State.listenWaitEnd_of_waiting hs hm hw]
  · rw [State.exec_listenAttemptEnd, hend, if_neg (by simp [hw]), if_pos hle, listenPassed, startRun, hb, hn, hr]
    rfl
  · rw [State.exec_listenAttemptEnd, hend, if_neg (by simp [hw]), if_neg (by omega), if_pos ha, listenFailed, hn]
  · rw [State.exec_listenAttemptEnd, hend, if_neg (by simp [hw]), if_neg (by omega), if_neg (by omega), noisyPair, hr]

/-! ### Launches (R108, R109) -/

/-- A capture as long as the sum list adds to it index by index. -/
theorem addSamples_eq_zipWith {c : List Int} {d : List Sample} (h : c.length = d.length) :
    addSamples c d = List.zipWith (fun a b => a + b.toInt) c d := by
  induction c generalizing d with
  | nil => rfl
  | cons a c ih =>
    cases d with
    | nil => exact nomatch h
    | cons b d => rw [addSamples, ih (Nat.succ.inj h), List.zipWith_cons_cons]

namespace State

variable {s : State} {e : EngineId} {j : Job} {m : Meas}

theorem launching_of_job (hj : (s.engine e).job = some j) (hm : (s.engine e).meas = some m) :
    s.launching e =
      if s.resetLow = false ∧ (s.engine e).state = .pulse
      then some { port := j.port, pair := m.pair, ns := pulseNs (runReach j.reach m.run) } else none := by
  ext l
  rw [launching_eq_some_iff, hj, hm]
  split
  · next h => simp [h, eq_comm]
  · next h => simp [← and_assoc, h]

theorem exec_launchCaptured (s : State) (e : EngineId) (c : Quad (List Sample)) :
    exec (.launchCaptured e c) s = .next (s.launch e c) := rfl

theorem launch_of_pulse (hs : (s.engine e).state = .pulse) (hj : (s.engine e).job = some j)
    (hm : (s.engine e).meas = some m) (c : Quad (List Sample)) :
    s.launch e c = s.setEngine e { s.engine e with
      state := if m.reps + 1 < 2 ^ j.avg then .pulse else .analyse,
      meas := some { m with reps := m.reps + 1, sums := quadZip addSamples m.sums c } } := by
  simp only [launch, hs, hj, hm, launches, ← Nat.not_lt, ite_not]

/-! ### The end of an analysis (R110 to R113) -/

theorem exec_analysisDone (s : State) (e : EngineId) : exec (.analysisDone e) s = .next (s.analysisDone e) := rfl

theorem analysisDone_of_analyse (hs : (s.engine e).state = .analyse) (hj : (s.engine e).job = some j)
    (hm : (s.engine e).meas = some m) {buffer : Quad (List Int)}
    (hb : quadSet (s.engine e).buffer m.pair (quadGet (runLists j m) m.pair) = buffer) :
    s.analysisDone e =
      if rerunDue j m then
        s.setEngine e { s.engine e with state := .pulse, buffer, meas := some (startRun j.reach m .rerun) }
      else
        (s.setEngine e { s.engine e with buffer, meas := some { m with sums := sameQuad [] } }).finishPair e
          (pairResult j m (runResult j m)) := by
  simp only [analysisDone, hs, hj, hm, hb]

end State

theorem rerunDue_iff {j : Job} {m : Meas} :
    rerunDue j m = true ↔ j.reach = .auto ∧ m.run = .first ∧ (runResult j m).cls = .normal := by
  simp only [rerunDue, Bool.and_eq_true, beq_iff_eq, and_assoc]

theorem not_rerunDue {j : Job} {m : Meas} (h : j.reach ≠ .auto ∨ m.run = .rerun ∨ (runResult j m).cls ≠ .normal) :
    ¬rerunDue j m = true := by
  rw [rerunDue_iff]
  rintro ⟨ha, hf, hn⟩
  rcases h with h | h | h
  · exact h ha
  · exact nomatch hf.symm.trans h
  · exact h hn

/-- Settles O46: run reaches by cases, launches by `addSamples_eq_zipWith`, the analysis by `rerunDue_iff`. -/
theorem launchesAndAnalysis : Obligations.LaunchesAndAnalysis := by
  refine ⟨fun j m reach blank ns hreach hcase => ?_, ?_⟩
  · have hr : runReach j.reach m.run = reach := by
      rw [hreach]
      cases j.reach <;> cases m.run <;> rfl
    rw [runResult, hr]
    rcases hcase with ⟨rfl, rfl, rfl⟩ | ⟨rfl, rfl, rfl⟩ | ⟨rfl, rfl, rfl⟩ <;> exact ⟨rfl, rfl, rfl⟩
  rintro s e x j m rfl hj hm
  refine ⟨State.launching_of_job hj hm, fun c hs _ hlen => ⟨quadZip addSamples m.sums c, ?_, fun y => ?_⟩, ?_⟩
  · rw [State.exec_launchCaptured, State.launch_of_pulse hs hj hm]
  · rw [quadGet_quadZip, addSamples_eq_zipWith (hlen y)]
    refine ⟨by simp [hlen y], fun i a b ha hb => ?_⟩
    rw [List.getElem?_zipWith, ha, hb]
  · rintro res buffer hs rfl hbuf
    have hb : quadSet (s.engine e).buffer m.pair (quadGet (runLists j m) m.pair) = buffer :=
      quad_eq_of_quadGet fun y => by
        rw [hbuf, quadGet_quadSet]
        split
        · next h => rw [h]
        · rfl
    have hdone := State.analysisDone_of_analyse hs hj hm hb
    refine ⟨fun ha hf hn => ?_, fun n h hsp => ?_⟩
    · rw [State.exec_analysisDone, hdone, if_pos (rerunDue_iff.mpr ⟨ha, hf, hn⟩), ha]
      rfl
    · rw [State.exec_analysisDone, hdone, if_neg (not_rerunDue h), pairResult, hsp]
      rfl

end Sys2Proof.Machine
end
section
/-! SUPPORT. The echo analysis of one run: compensated values, the search for an echo, the peak scan, the cross-pair check
and the bounds of R132 (R118 to R133). -/

namespace Sys2Proof.Machine

/-! ### Lists from an index on -/

theorem drop_eq_cons_of_getElem? {α : Type} {d : List α} {b : Nat} {x : α} (h : d[b]? = some x) :
    d.drop b = x :: d.drop (b + 1) := by
  obtain ⟨hb, rfl⟩ := List.getElem?_eq_some_iff.mp h
  exact List.drop_eq_getElem_cons hb

theorem getElem?_of_drop_eq_cons {α : Type} {d rest : List α} {b : Nat} {x : α} (h : d.drop b = x :: rest) :
    d[b]? = some x ∧ d.drop (b + 1) = rest := by
  rw [← List.tail_drop, ← Nat.add_zero b, ← List.getElem?_drop, Nat.add_zero, h]
  exact ⟨rfl, rfl⟩

theorem mem_drop_iff_getElem? {α : Type} {d : List α} {b : Nat} {x : α} :
    x ∈ d.drop b ↔ ∃ i, b ≤ i ∧ d[i]? = some x := by
  simp only [List.mem_iff_getElem?, List.getElem?_drop]
  exact ⟨fun ⟨i, h⟩ => ⟨b + i, by omega, h⟩, fun ⟨i, hb, h⟩ => ⟨i - b, by rwa [Nat.add_sub_cancel' hb]⟩⟩

/-! ### Steps 1 to 3 (R118 to R122) -/

theorem saturate_eq (u : Int) : saturate u = max (-32768) (min u 32767) := by
  unfold saturate
  omega

theorem compensatedFrom_eq_mapIdx (slope n : Nat) (b : Int) (i : Nat) (c : List Int) :
    compensatedFrom slope n b i c = c.mapIdx fun k => compensated slope n b (i + k) := by
  induction c generalizing i with
  | nil => rfl
  | cons x rest ih => simp only [compensatedFrom, ih, List.mapIdx_cons, Nat.add_zero, Nat.add_assoc, Nat.add_comm 1]

theorem quadGet_runLists {j : Job} {m : Meas} {base : Quad Int} (h : m.baselines = some base) (y : Pair) :
    quadGet (runLists j m) y =
      (quadGet m.sums y).mapIdx (compensated j.snap.lossSlope (launches j.avg) (quadGet base y)) := by
  simp only [runLists, compensatedLists, quadGet_quadZip, h, Option.getD_some, compensatedFrom_eq_mapIdx, Nat.zero_add]

theorem quadGet_runLists_length (j : Job) (m : Meas) (y : Pair) :
    (quadGet (runLists j m) y).length = (quadGet m.sums y).length := by
  rw [runLists, compensatedLists, quadGet_quadZip, compensatedFrom_eq_mapIdx, List.length_mapIdx]

theorem lossFactor_eq {slope i f : Nat}
    (h : 16 * (f - 1024) ≤ slope * i ∧ slope * i < 16 * (f - 1024) + 16 ∧ 1024 ≤ f) : lossFactor slope i = f := by
  unfold lossFactor
  omega

/-- Truncation toward zero: the floor of a product that is not negative, and the ceiling of a negative one (R121). -/
theorem tdiv_1024_eq {x u : Int}
    (h : 0 ≤ x ∧ 1024 * u ≤ x ∧ x < 1024 * u + 1024 ∨ x < 0 ∧ x ≤ 1024 * u ∧ 1024 * u < x + 1024) :
    x.tdiv 1024 = u := by
  rcases h with ⟨h0, h⟩ | ⟨h0, h⟩
  · rw [Int.tdiv_eq_ediv_of_nonneg h0]
    omega
  · rw [← Int.neg_neg x, Int.neg_tdiv, Int.tdiv_eq_ediv_of_nonneg (by omega)]
    omega

/-- Settles O47: each step of the arithmetic is the value that its inequalities fix. -/
theorem compensatedValues : Obligations.CompensatedValues := by
  intro j m base hbase y
  refine ⟨quadGet_runLists_length j m y, fun i sum a u f hsum hmean hloss htrunc => ?_⟩
  have hfloor : sum / ((launches j.avg : Nat) : Int) = a := by
    rw [launches, Nat.cast_pow, Nat.cast_two, Int.ediv_eq_iff_of_pos (by positivity)]
    constructor <;> linarith
  rw [quadGet_runLists hbase, List.getElem?_mapIdx, hsum, Option.map_some, compensated, hfloor, lossFactor_eq hloss,
    tdiv_1024_eq htrunc, saturate_eq]

/-! ### The first value that reaches a level (R123, R129) -/

/-- The first value from index `b` on of magnitude at least `level` is `u`, at index `n`. -/
structure FirstReach (level b : Nat) (d : List Int) (n : Nat) (u : Int) : Prop where
  from_start : b ≤ n
  value : d[n]? = some u
  reaches : level ≤ u.natAbs
  first : ∀ (k : Nat) (a : Int), b ≤ k → k < n → d[k]? = some a → a.natAbs < level

theorem exists_firstReach {level b : Nat} {d : List Int} (h : ∃ i v, b ≤ i ∧ d[i]? = some v ∧ level ≤ v.natAbs) :
    ∃ n u, FirstReach level b d n u := by
  classical
  obtain ⟨u, hb, hu, hl⟩ := Nat.find_spec h
  refine ⟨Nat.find h, u, hb, hu, hl, fun k a hbk hk ha => ?_⟩
  by_contra hla
  exact Nat.find_min h hk ⟨a, hbk, ha, not_lt.mp hla⟩

theorem firstAtLeast_of_firstReach {level b n : Nat} {d : List Int} {u : Int} (h : FirstReach level b d n u) :
    firstAtLeast level b (d.drop b) = some (n, u :: d.drop (n + 1)) := by
  obtain ⟨hb, hu, hl, hfirst⟩ := h
  induction hb using Nat.decreasingInduction with
  | self => rw [drop_eq_cons_of_getElem? hu, firstAtLeast, if_pos hl]
  | of_succ b hb ih =>
    obtain ⟨hn, -⟩ := List.getElem?_eq_some_iff.mp hu
    have ha : d[b]? = some (d[b]'(by omega)) := List.getElem?_eq_getElem _
    rw [drop_eq_cons_of_getElem? ha, firstAtLeast, if_neg (not_le.mpr (hfirst b _ le_rfl hb ha))]
    exact ih fun k a hk => hfirst k a (by omega)

theorem firstAtLeast_eq_none {level : Nat} {d : List Int} (h : ∀ x ∈ d, x.natAbs < level) (i : Nat) :
    firstAtLeast level i d = none := by
  induction d generalizing i with
  | nil => rfl
  | cons x rest ih =>
    obtain ⟨hx, hrest⟩ := List.forall_mem_cons.mp h
    rw [firstAtLeast, if_neg (not_le.mpr hx), ih hrest]

/-! ### The peak scan (R124) -/

theorem sameSign_iff {x y : Int} : sameSign x y = true ↔ 0 < y * x := by
  simp only [sameSign, Bool.or_eq_true, Bool.and_eq_true, decide_eq_true_eq, mul_pos_iff, and_comm]

/-- A value with the sign of `x` has the sign of whatever has the sign of `x`. -/
theorem mul_pos_iff_of_mul_pos {x y z : Int} (h : 0 < y * x) : 0 < z * y ↔ 0 < z * x := by
  simp only [mul_pos_iff] at h ⊢
  omega

/-- The peak scan from index `i` stops at index `p` with the value `v`; `u` is a value of the echo's sign. -/
structure PeakScan (d : List Int) (i : Nat) (u : Int) (p : Nat) (v : Int) : Prop where
  from_start : i ≤ p
  value : d[p]? = some v
  climbs : ∀ (k : Nat) (a b : Int), i ≤ k → k < p → d[k]? = some a → d[k + 1]? = some b →
    a.natAbs ≤ b.natAbs ∧ 0 < b * u
  stops : ∀ b, d[p + 1]? = some b → b.natAbs < v.natAbs ∨ ¬0 < b * u

/-- A scan that stops where it starts. -/
theorem PeakScan.here {d : List Int} {i : Nat} {u x : Int} (hx : d[i]? = some x)
    (hstop : ∀ b, d[i + 1]? = some b → b.natAbs < x.natAbs ∨ ¬0 < b * u) : PeakScan d i u i x :=
  ⟨le_rfl, hx, fun _ _ _ hi hk => absurd hk (not_lt.mpr hi), hstop⟩

/-- A scan that moves on from its first value. -/
theorem PeakScan.step {d : List Int} {i p : Nat} {u x y v : Int} (hx : d[i]? = some x) (hy : d[i + 1]? = some y)
    (hclimb : x.natAbs ≤ y.natAbs ∧ 0 < y * u) (h : PeakScan d (i + 1) u p v) : PeakScan d i u p v := by
  refine ⟨(Nat.le_succ i).trans h.from_start, h.value, fun k a b hi hk ha hb => ?_, h.stops⟩
  rcases hi.eq_or_lt with rfl | hi
  · obtain rfl := Option.some.inj (hx.symm.trans ha)
    obtain rfl := Option.some.inj (hy.symm.trans hb)
    exact hclimb
  · exact h.climbs k a b hi hk ha hb

/-- Comparing each value's sign with the last one, as `peakFrom` does, compares it with the echo's sign. -/
theorem peakFrom_scans {d : List Int} {i : Nat} {u x : Int} (hx : d[i]? = some x)
    (hsign : ∀ z, 0 < z * x ↔ 0 < z * u) : ∃ p, PeakScan d i u p (peakFrom x (d.drop (i + 1))) := by
  induction hd : d.drop (i + 1) generalizing i x with
  | nil =>
    have hend : d[i + 1]? = none := List.getElem?_eq_none (List.drop_eq_nil_iff.mp hd)
    exact ⟨i, .here hx fun b hb => nomatch hend.symm.trans hb⟩
  | cons y rest ih =>
    obtain ⟨hy, hrest⟩ := getElem?_of_drop_eq_cons hd
    simp only [peakFrom, sameSign_iff, hsign y]
    split
    · next hclimb =>
      have hyx : 0 < y * x := (hsign y).mpr hclimb.2
      obtain ⟨p, hp⟩ := ih hy (fun z => (mul_pos_iff_of_mul_pos hyx).trans (hsign z)) hrest
      exact ⟨p, .step hx hy hclimb hp⟩
    · next hstop =>
      refine ⟨i, .here hx fun b hb => ?_⟩
      obtain rfl := Option.some.inj (hy.symm.trans hb)
      rwa [not_and_or, not_le] at hstop

/-! ### The pulsed pair's own result (R123 to R125) -/

theorem ownResult_of_quiet {snap : Snapshot} {blank : Nat} {d : List Int}
    (h : ∀ (i : Nat) (v : Int), blank ≤ i → d[i]? = some v → v.natAbs < snap.detectLevel) :
    ownResult snap blank d = { cls := .normal, echo := none, partner := none } := by
  have hnone : ∀ v ∈ d.drop blank, v.natAbs < snap.detectLevel := fun v hv =>
    let ⟨i, hi, hc⟩ := mem_drop_iff_getElem?.mp hv
    h i v hi hc
  rw [ownResult, firstAtLeast_eq_none hnone]

theorem ownResult_of_firstReach {snap : Snapshot} {blank i0 : Nat} {d : List Int} {u v : Int}
    (h : FirstReach snap.detectLevel blank d i0 u) (hv : peakFrom u (d.drop (i0 + 1)) = v) :
    ownResult snap blank d =
      { cls := peakClass snap.hardLevel v,
        echo := some { i0, peak := v, distance := distanceOf snap.velocity i0 }, partner := none } := by
  rw [ownResult, firstAtLeast_of_firstReach h, ← hv]

/-- An OPEN or SHORT peak reaches the hard level (R125). -/
theorem hardLevel_le_of_peakClass {hard : Nat} {v : Int} (h : peakClass hard v = .opened ∨ peakClass hard v = .short) :
    hard ≤ v.natAbs := by
  unfold peakClass at h
  split at h
  · omega
  · split at h
    · omega
    · split at h <;> simp at h

/-! ### The value of greatest magnitude (R126) -/

/-- From index `b` on, no value has a greater magnitude than `v`, which first stands at index `i`. -/
structure LeadsFrom (b : Nat) (d : List Int) (i : Nat) (v : Int) : Prop where
  from_start : b ≤ i
  value : d[i]? = some v
  leads : ∀ (k : Nat) (a : Int), b ≤ k → d[k]? = some a → a.natAbs < v.natAbs ∨ a.natAbs = v.natAbs ∧ i ≤ k

/-- The greatest of a list that continues at index `b + 1`, against the value at index `b`. -/
theorem LeadsFrom.extend {b i : Nat} {d : List Int} {x v : Int} (hx : d[b]? = some x) (h : LeadsFrom (b + 1) d i v) :
    ∃ i, LeadsFrom b d i (if x.natAbs < v.natAbs then v else x) := by
  obtain ⟨hi, hv, hlead⟩ := h
  split
  · next hlt =>
    refine ⟨i, by omega, hv, fun k a hk ha => ?_⟩
    rcases hk.eq_or_lt with rfl | hk
    · obtain rfl := Option.some.inj (hx.symm.trans ha)
      exact .inl hlt
    · exact hlead k a hk ha
  · next hge =>
    refine ⟨b, le_rfl, hx, fun k a hk ha => ?_⟩
    rcases hk.eq_or_lt with rfl | hk
    · obtain rfl := Option.some.inj (hx.symm.trans ha)
      exact .inr ⟨rfl, le_rfl⟩
    · have := hlead k a hk ha
      omega

theorem greatest_leadsFrom {b : Nat} {d : List Int} (hb : b < d.length) : ∃ i, LeadsFrom b d i (greatest (d.drop b)) := by
  induction hd : d.drop b generalizing b with
  | nil => exact absurd (List.drop_eq_nil_iff.mp hd) (not_le.mpr hb)
  | cons x rest ih =>
    obtain ⟨hx, hrest⟩ := getElem?_of_drop_eq_cons hd
    by_cases hend : b + 1 < d.length
    · obtain ⟨i, hi⟩ := ih hend hrest
      exact hi.extend hx
    · have hnil : rest = [] := hrest ▸ List.drop_eq_nil_of_le (not_lt.mp hend)
      refine ⟨b, le_rfl, by simpa [hnil, greatest] using hx, fun k a hk ha => ?_⟩
      obtain ⟨hlen, -⟩ := List.getElem?_eq_some_iff.mp ha
      obtain rfl : k = b := by omega
      obtain rfl := Option.some.inj (hx.symm.trans ha)
      simp [hnil, greatest]

theorem natAbs_le_greatest {b k : Nat} {d : List Int} {a : Int} (hk : b ≤ k) (ha : d[k]? = some a) :
    a.natAbs ≤ (greatest (d.drop b)).natAbs := by
  obtain ⟨hlen, -⟩ := List.getElem?_eq_some_iff.mp ha
  obtain ⟨i, hi⟩ := greatest_leadsFrom (hk.trans_lt hlen)
  have := hi.leads k a hk ha
  omega

/-! ### The cross-pair check (R127, R128) -/

theorem qualifies_iff {cross blank : Nat} {d : List Int} :
    qualifies cross blank d = true ↔ ∃ i v, blank ≤ i ∧ d[i]? = some v ∧ cross ≤ v.natAbs := by
  simp only [qualifies, List.any_eq_true, decide_eq_true_eq, mem_drop_iff_getElem?]
  exact ⟨fun ⟨v, ⟨i, hi, hv⟩, hl⟩ => ⟨i, v, hi, hv, hl⟩, fun ⟨i, v, hi, hv, hl⟩ => ⟨v, ⟨i, hi, hv⟩, hl⟩⟩

theorem mem_otherPairs {x : Pair} {c : Quad (List Int)} {w : Pair × List Int} :
    w ∈ otherPairs x c ↔ w.1 ≠ x ∧ w.2 = quadGet c w.1 := by
  obtain ⟨y, d⟩ := w
  cases y <;> simp [otherPairs, quadGet, and_comm]

theorem otherPairs_in_order (x : Pair) (c : Quad (List Int)) :
    (otherPairs x c).Pairwise fun w z => w.1.code ≤ z.1.code :=
  List.Pairwise.filter _ (by simp [Pair.code])

theorem bestPartner_eq_none_iff {cross blank : Nat} {l : List (Pair × List Int)} :
    bestPartner cross blank l = none ↔ ∀ w ∈ l, ¬qualifies cross blank w.2 = true := by
  induction l with
  | nil => simp [bestPartner]
  | cons w rest ih =>
    rw [bestPartner, List.forall_mem_cons, ← ih]
    split
    · next hq =>
      simp only [hq, not_true, false_and, iff_false]
      cases bestPartner cross blank rest with
      | none => exact Option.some_ne_none _
      | some z => dsimp only; split <;> exact Option.some_ne_none _
    · next hq => simp only [hq, not_false_iff, true_and, Bool.false_eq_true]

/-- `w` qualifies, and no list that does has a greater maximum than `w`, or as great a one at an earlier pair (R128). -/
structure BestOf (cross blank : Nat) (l : List (Pair × List Int)) (w : Pair × List Int) : Prop where
  mem : w ∈ l
  reaches_cross : qualifies cross blank w.2 = true
  best : ∀ z ∈ l, qualifies cross blank z.2 = true →
    (greatest (z.2.drop blank)).natAbs < (greatest (w.2.drop blank)).natAbs ∨
      (greatest (z.2.drop blank)).natAbs = (greatest (w.2.drop blank)).natAbs ∧ w.1.code ≤ z.1.code

theorem bestOf_of_bestPartner {cross blank : Nat} {l : List (Pair × List Int)} {w : Pair × List Int}
    (hl : l.Pairwise fun w z => w.1.code ≤ z.1.code) (h : bestPartner cross blank l = some w) :
    BestOf cross blank l w := by
  induction l generalizing w with
  | nil => exact nomatch h
  | cons y rest ih =>
    obtain ⟨hy, hrest⟩ := List.pairwise_cons.mp hl
    rw [bestPartner] at h
    split at h
    · next hq =>
      split at h
      · next z e hz =>
        have hbest := ih hrest hz
        split at h <;> cases h
        · next hlt =>
          exact ⟨.tail _ hbest.mem, hbest.reaches_cross, List.forall_mem_cons.mpr ⟨fun _ => .inl hlt, hbest.best⟩⟩
        · next hge =>
          refine ⟨.head _, hq, List.forall_mem_cons.mpr ⟨fun _ => .inr ⟨rfl, le_rfl⟩, fun v hv hqv => ?_⟩⟩
          have hle := hbest.best v hv hqv
          have hcode := hy v hv
          dsimp only at hge hle hcode ⊢
          omega
      · next hnone =>
        cases h
        exact ⟨.head _, hq, List.forall_mem_cons.mpr ⟨fun _ => .inr ⟨rfl, le_rfl⟩, fun v hv hqv =>
          absurd hqv (bestPartner_eq_none_iff.mp hnone v hv)⟩⟩
    · next hq =>
      have hbest := ih hrest h
      exact ⟨.tail _ hbest.mem, hbest.reaches_cross, List.forall_mem_cons.mpr ⟨fun hqy => absurd hqy hq, hbest.best⟩⟩

/-! ### The run (R130, R132, R133) -/

/-- The result of a run whose cross-pair check finds pair `y`: its greatest value `v` at `i`, its first one `u` at `i0`. -/
structure Crossing (snap : Snapshot) (blank : Nat) (x : Pair) (c : Quad (List Int)) (y : Pair) (i0 i : Nat)
    (v u : Int) : Prop where
  result : classify snap blank x c =
    { cls := .crossShort, echo := some { i0, peak := v, distance := distanceOf snap.velocity i0 }, partner := some y }
  other : y ≠ x
  leads : LeadsFrom blank (quadGet c y) i v
  best : ∀ (z : Pair) (k : Nat) (a : Int), z ≠ x → blank ≤ k → (quadGet c z)[k]? = some a →
    a.natAbs < v.natAbs ∨ a.natAbs = v.natAbs ∧ y.code ≤ z.code
  first : FirstReach snap.crossLevel 0 (quadGet c y) i0 u
  level : snap.crossLevel ≤ v.natAbs

theorem classify_of_crossing {snap : Snapshot} {blank : Nat} {x : Pair} {c : Quad (List Int)}
    (h : ∃ y, y ≠ x ∧ ∃ i v, blank ≤ i ∧ (quadGet c y)[i]? = some v ∧ snap.crossLevel ≤ v.natAbs) :
    ∃ y i0 i v u, Crossing snap blank x c y i0 i v u := by
  obtain ⟨w, hwx, hw⟩ := h
  have hsome : bestPartner snap.crossLevel blank (otherPairs x c) ≠ none := fun hnone =>
    bestPartner_eq_none_iff.mp hnone (w, quadGet c w) (mem_otherPairs.mpr ⟨hwx, rfl⟩) (qualifies_iff.mpr hw)
  obtain ⟨⟨y, d⟩, hy⟩ := Option.ne_none_iff_exists'.mp hsome
  obtain ⟨hmem, hq, hbest⟩ := bestOf_of_bestPartner (otherPairs_in_order x c) hy
  obtain ⟨hyx, hd⟩ := mem_otherPairs.mp hmem
  dsimp only at hyx hd hq hbest
  subst hd
  obtain ⟨k, a, hk, ha, hla⟩ := qualifies_iff.mp hq
  obtain ⟨hlen, -⟩ := List.getElem?_eq_some_iff.mp ha
  obtain ⟨i, hi⟩ := greatest_leadsFrom (hk.trans_lt hlen)
  obtain ⟨i0, u, hu⟩ := exists_firstReach ⟨k, a, k.zero_le, ha, hla⟩
  have hlevel : snap.crossLevel ≤ (greatest ((quadGet c y).drop blank)).natAbs :=
    hla.trans (natAbs_le_greatest hk ha)
  refine ⟨y, i0, i, _, u, ?_, hyx, hi, fun z k a hzx hk ha => ?_, hu, hlevel⟩
  · have hfirst := firstAtLeast_of_firstReach hu
    rw [List.drop_zero] at hfirst
    simp only [classify, hy, hfirst, Option.map_some, Option.getD_some]
  · have hle := natAbs_le_greatest hk ha
    by_cases hqz : qualifies snap.crossLevel blank (quadGet c z) = true
    · have := hbest (z, quadGet c z) (mem_otherPairs.mpr ⟨hzx, rfl⟩) hqz
      dsimp only at this
      omega
    · have hlow : a.natAbs < snap.crossLevel := not_le.mp fun hla => hqz (qualifies_iff.mpr ⟨k, a, hk, ha, hla⟩)
      exact .inl (hlow.trans_le hlevel)

theorem classify_of_no_crossing {snap : Snapshot} {blank : Nat} {x : Pair} {c : Quad (List Int)}
    (h : ∀ (y : Pair) (i : Nat) (v : Int), y ≠ x → blank ≤ i → (quadGet c y)[i]? = some v → v.natAbs < snap.crossLevel) :
    classify snap blank x c = ownResult snap blank (quadGet c x) := by
  have hnone : bestPartner snap.crossLevel blank (otherPairs x c) = none :=
    bestPartner_eq_none_iff.mpr fun w hw hq => by
      obtain ⟨hwx, hd⟩ := mem_otherPairs.mp hw
      obtain ⟨i, v, hi, hv, hl⟩ := qualifies_iff.mp hq
      exact absurd (h w.1 i v hwx hi (hd ▸ hv)) (not_lt.mpr hl)
  rw [classify, hnone]

/-- Settles O48: the cross-pair check by `classify_of_crossing`, the pulsed pair by its first reach and its scan. -/
theorem echoClasses : Obligations.EchoClasses := by
  rintro snap blank x c _ rfl
  refine ⟨fun h => ?_, fun hno => ⟨fun hquiet => ?_, fun i0 u hb hu hl hfirst => ?_⟩⟩
  · obtain ⟨y, i0, i, v, u, hcross⟩ := classify_of_crossing h
    obtain ⟨hres, hyx, hlead, hbest, hfirst, hlevel⟩ := hcross
    exact ⟨y, i0, i, v, u, hres, hyx, hlead.from_start, hlead.value, hlevel, hlead.leads,
      fun z k a hzx _ => hbest z k a hzx, hfirst.value, hfirst.reaches, fun k a => hfirst.first k a k.zero_le⟩
  · rw [classify_of_no_crossing hno, ownResult_of_quiet hquiet]
  · obtain ⟨p, hp⟩ := peakFrom_scans hu fun _ => Iff.rfl
    refine ⟨p, _, hp.from_start, hp.value, hp.climbs, hp.stops, ?_⟩
    rw [classify_of_no_crossing hno, ownResult_of_firstReach ⟨hb, hu, hl, hfirst⟩ rfl]
    rfl

/-- A run ends at another pair, without an echo, or with an echo of the pulsed pair and the class of its peak. -/
theorem classify_cases (snap : Snapshot) (blank : Nat) (x : Pair) (c : Quad (List Int)) :
    (∃ y i0 i v u, Crossing snap blank x c y i0 i v u) ∨
    classify snap blank x c = { cls := .normal, echo := none, partner := none } ∨
    ∃ i0 v, i0 < (quadGet c x).length ∧
      classify snap blank x c =
        { cls := peakClass snap.hardLevel v,
          echo := some { i0, peak := v, distance := distanceOf snap.velocity i0 }, partner := none } := by
  by_cases hcross : ∃ y, y ≠ x ∧ ∃ i v, blank ≤ i ∧ (quadGet c y)[i]? = some v ∧ snap.crossLevel ≤ v.natAbs
  · exact .inl (classify_of_crossing hcross)
  have hown : classify snap blank x c = ownResult snap blank (quadGet c x) :=
    classify_of_no_crossing fun y i v hy hi hv => not_le.mp fun hl => hcross ⟨y, hy, i, v, hi, hv, hl⟩
  by_cases hecho : ∃ i v, blank ≤ i ∧ (quadGet c x)[i]? = some v ∧ snap.detectLevel ≤ v.natAbs
  · obtain ⟨i0, u, hu⟩ := exists_firstReach hecho
    obtain ⟨hlen, -⟩ := List.getElem?_eq_some_iff.mp hu.value
    exact .inr (.inr ⟨i0, _, hlen, hown.trans (ownResult_of_firstReach hu rfl)⟩)
  · exact .inr (.inl (hown.trans (ownResult_of_quiet fun i v hi hv => not_le.mp fun hl => hecho ⟨i, v, hi, hv, hl⟩)))

theorem distanceOf_le {velocity i0 : Nat} (hv : velocity ≤ 900) (hi : i0 ≤ 1023) : distanceOf velocity i0 ≤ 27441 := by
  have hmul : (i0 - 6) * velocity ≤ 1017 * 900 := Nat.mul_le_mul (by omega) hv
  unfold distanceOf
  split <;> omega

/-- Settles O49: the three ends of a run by `classify_cases`, with lists as long as the sums. -/
theorem distanceAndPeakBounds : Obligations.DistanceAndPeakBounds := by
  refine ⟨fun j m g hvel hwin hg => ?_, fun j m hcls => ?_, by decide⟩
  · have hlast : ∀ y i0, i0 < (quadGet (runLists j m) y).length → i0 ≤ 1023 := fun y i0 h => by
      have := hwin y
      rw [quadGet_runLists_length] at h
      omega
    rw [runResult] at hg ⊢
    rcases classify_cases j.snap (blanking (runReach j.reach m.run)) m.pair (runLists j m) with
      ⟨y, i0, i, v, u, hcross⟩ | hnone | ⟨i0, v, hlen, hres⟩
    · rw [hcross.result] at hg ⊢
      obtain rfl := Option.some.inj hg
      obtain ⟨hlen, -⟩ := List.getElem?_eq_some_iff.mp hcross.first.value
      have hi := hlast y i0 hlen
      exact ⟨hi, distanceOf_le hvel hi, fun h => by simp at h⟩
    · rw [hnone] at hg
      exact nomatch hg
    · rw [hres] at hg ⊢
      obtain rfl := Option.some.inj hg
      have hi := hlast m.pair i0 hlen
      exact ⟨hi, distanceOf_le hvel hi, hardLevel_le_of_peakClass⟩
  · rw [runResult] at hcls ⊢
    rcases classify_cases j.snap (blanking (runReach j.reach m.run)) m.pair (runLists j m) with
      ⟨y, i0, i, v, u, hcross⟩ | hnone | ⟨i0, v, -, hres⟩
    · exact ⟨_, congrArg RunResult.echo hcross.result⟩
    · rw [hnone] at hcls
      simp at hcls
    · exact ⟨_, congrArg RunResult.echo hres⟩

end Sys2Proof.Machine
end

section
/-! SUPPORT. The Trace Store's two requests: the slots and pairs a request can name, and their owners by the state of the
slot (R146 to R148, R202). -/

namespace Sys2Proof.Machine

/-! ### What a request names -/

/-- The slot numbers are 1 to 8. -/
theorem slotOf_eq_none_iff {b : Byte} : slotOf b = none ↔ b.toNat = 0 ∨ 8 < b.toNat := by
  unfold slotOf
  split <;> simp <;> omega

theorem slotOf_eq_some {b : Byte} {t : SlotId} (h : b.toNat = t.val + 1) : slotOf b = some t := by
  unfold slotOf
  rw [dif_pos (by omega)]
  exact congrArg some (Fin.ext (by simp [h]))

theorem Pair.ofCode_code (x : Pair) : Pair.ofCode x.code = some x := by cases x <;> rfl

/-- The pair codes end at 3. -/
theorem Pair.ofCode_eq_none : ∀ {n : Nat}, 3 < n → Pair.ofCode n = none
  | _ + 4, _ => rfl

/-! ### READ_TRACE (R146, R147) -/

/-- A trace body starts with the header's number, port and four pairs in order (R202). -/
theorem traceBody_eq (h : TraceHeader) (x : Pair) (first : Word) (values : List Int) :
    traceBody h x first values = bytesOf16 h.number ++ [byteOf (h.port.val + 1)] ++
      [h.pairs.a, h.pairs.b, h.pairs.c, h.pairs.d].flatMap (fun y => byteOf y.reach.code :: bytesOf16 y.count) ++
      [byteOf x.code] ++ bytes16 first ++ [byteOf values.length] ++ values.flatMap bytesOfInt := by
  simp [traceBody, headerBytes, tracePairBytes, portByte]

section ReadTrace

variable {slot pair : Byte} {t : SlotId} {x : Pair} (first count : Word) {s : State}

/-- The first two checks, a slot number outside 1 to 8 and an undefined pair code, give the same refusal (R146). -/
theorem ownReadTrace_of_unnamed (s : State) (h : slot.toNat = 0 ∨ 8 < slot.toNat ∨ 3 < pair.toNat) :
    ownReadTrace slot pair first count s = (s, refuse .badValue) := by
  rcases or_assoc.mpr h with hslot | hpair
  · rw [ownReadTrace, slotOf_eq_none_iff.mpr hslot]
  · rw [ownReadTrace, Pair.ofCode_eq_none hpair]
    cases slotOf slot <;> rfl

theorem ownReadTrace_of_free (ht : slot.toNat = t.val + 1) (hx : pair.toNat = x.code) (hfree : s.slot t = .free) :
    ownReadTrace slot pair first count s = (s, refuse .notFound) := by
  simp only [ownReadTrace, slotOf_eq_some ht, hx, Pair.ofCode_code, hfree]

theorem ownReadTrace_of_filling {e : EngineId} {n : Nat} (ht : slot.toNat = t.val + 1) (hx : pair.toNat = x.code)
    (hfilling : s.slot t = .filling e n) : ownReadTrace slot pair first count s = (s, refuse .slotBusy) := by
  simp only [ownReadTrace, slotOf_eq_some ht, hx, Pair.ofCode_code, hfilling]

/-- A HELD slot is read and stays as it is; a count above 96 is CLAMPED (R147). -/
theorem ownReadTrace_of_held {h : TraceHeader} {c : Quad (List Int)} (ht : slot.toNat = t.val + 1)
    (hx : pair.toNat = x.code) (hheld : s.slot t = .held h c) :
    ownReadTrace slot pair first count s =
      (s, takenClamped (decide (96 < count.toNat))
        (traceBody h x first (traceValues (quadGet c x) first.toNat count.toNat))) := by
  simp only [ownReadTrace, slotOf_eq_some ht, hx, Pair.ofCode_code, hheld]

end ReadTrace

/-- A READ_TRACE on a free line changes nothing but the sender where its owner keeps the state. -/
theorem exec_readTrace {s : State} (hl : s.lineFree) (tag : Byte) {slot pair : Byte} {first count : Word} {a : Answer}
    (h : ownReadTrace slot pair first count s = (s, a)) :
    exec (.readTrace tag slot pair first count) s = .next (s.replied tag 0x93#8 a) := by
  rw [exec_request_of_lineFree hl (r := .readTrace slot pair first count) rfl rfl, own, h]
  rfl

/-- Settles O32: the owner's answer at each check of R146, and the layout `traceBody_eq` where the slot is HELD. -/
theorem readTraceByItsChecks : Obligations.ReadTraceByItsChecks := by
  rintro s tag slot pair first count hl ex rfl
  refine ⟨fun hbad => exec_readTrace hl tag (ownReadTrace_of_unnamed first count s hbad), fun t x ht hx =>
    ⟨fun hfree => exec_readTrace hl tag (ownReadTrace_of_free first count ht hx hfree),
      fun e n hfilling => exec_readTrace hl tag (ownReadTrace_of_filling first count ht hx hfilling),
      fun h c values hheld hvalues => ?_⟩⟩
  have hpair : byteOf x.code = pair := by rw [← hx, byteOf, BitVec.ofNat_toNat, BitVec.setWidth_eq]
  rw [exec_readTrace hl tag (ownReadTrace_of_held first count ht hx hheld), takenClamped, traceBody_eq, hpair,
    traceValues, ← hvalues]
  simp only [decide_eq_true_eq]

/-! ### RELEASE_TRACE (R148) -/

section ReleaseTrace

variable {slot : Byte} {t : SlotId} {s : State}

theorem ownReleaseTrace_of_unnamed (s : State) (h : slot.toNat = 0 ∨ 8 < slot.toNat) :
    ownReleaseTrace slot s = (s, refuse .badValue) := by
  rw [ownReleaseTrace, slotOf_eq_none_iff.mpr h]

theorem ownReleaseTrace_of_free (ht : slot.toNat = t.val + 1) (hfree : s.slot t = .free) :
    ownReleaseTrace slot s = (s, taken [0, 0, 0, 0, 0]) := by
  simp only [ownReleaseTrace, slotOf_eq_some ht, hfree]
  rfl

/-- A running test keeps its slot. -/
theorem ownReleaseTrace_of_filling {e : EngineId} {n : Nat} (ht : slot.toNat = t.val + 1)
    (hfilling : s.slot t = .filling e n) : ownReleaseTrace slot s = (s, refuse .slotBusy) := by
  simp only [ownReleaseTrace, slotOf_eq_some ht, hfilling]

/-- A HELD slot becomes FREE, and the reply names the test and the port it held. -/
theorem ownReleaseTrace_of_held {h : TraceHeader} {c : Quad (List Int)} (ht : slot.toNat = t.val + 1)
    (hheld : s.slot t = .held h c) :
    ownReleaseTrace slot s =
      (s.setSlot t .free, taken ([0, 1] ++ bytesOf16 h.number ++ [byteOf (h.port.val + 1)])) := by
  simp only [ownReleaseTrace, slotOf_eq_some ht, hheld]
  rfl

end ReleaseTrace

theorem exec_releaseTrace {s u : State} (hl : s.lineFree) (tag : Byte) {slot : Byte} {a : Answer}
    (h : ownReleaseTrace slot s = (u, a)) :
    exec (.releaseTrace tag slot) s = .next (u.replied tag 0x94#8 a) := by
  rw [exec_request_of_lineFree hl (r := .releaseTrace slot) rfl rfl, own, h]
  rfl

/-- Settles O33: the owner's answer in each state of the slot. -/
theorem releaseTraceBySlotState : Obligations.ReleaseTraceBySlotState := by
  refine fun s tag slot hl => ⟨fun hbad => exec_releaseTrace hl tag (ownReleaseTrace_of_unnamed s hbad), fun t ht => ?_⟩
  cases hslot : s.slot t with
  | free => exact exec_releaseTrace hl tag (ownReleaseTrace_of_free ht hslot)
  | filling e n => exact exec_releaseTrace hl tag (ownReleaseTrace_of_filling ht hslot)
  | held h c => exact exec_releaseTrace hl tag (ownReleaseTrace_of_held ht hslot)

end Sys2Proof.Machine
end

section
/-! SUPPORT. Reports: where an event, a hold and a completion find their entry, what a FETCH_REPORTS takes and leaves,
and the bytes of an entry (R153 to R163, R203). -/

namespace Sys2Proof.Machine

/-! ### A port's entry in its place (R151, R154) -/

/-- After the entries `l`, none of which is of port `p`, the entry `x` is the one of port `p`. -/
structure EntryStands (p : PortId) (x : PortEntry) (l : List Entry) : Prop where
  port : x.port = p
  before : ∀ y ∈ l, y.owner ≠ some p

section Standing

variable {p : PortId} {x : PortEntry} {l : List Entry} (rest : List Entry)

/-- Where a port's entry stands it is found, and a change of it leaves all before and after it. -/
theorem entry_of_stands (h : EntryStands p x l) :
    entryOf p (l ++ .port x :: rest) = some x ∧
      ∀ f, mapEntry p f (l ++ .port x :: rest) = l ++ .port (f x) :: rest := by
  obtain ⟨hx, hl⟩ := h
  induction l with
  | nil => simp [entryOf, mapEntry, hx]
  | cons y l ih =>
    obtain ⟨hy, hl⟩ := List.forall_mem_cons.mp hl
    obtain ⟨hentry, hmap⟩ := ih hl
    cases y with
    | device d => exact ⟨hentry, fun f => congrArg (Entry.device d :: ·) (hmap f)⟩
    | port z =>
      have hz : z.port ≠ p := by simpa [Entry.owner] using hy
      simp [entryOf, mapEntry, hz, hentry, hmap]

theorem entryOf_eq_none_of_absent {r : List Entry} (h : ∀ y ∈ r, y.owner ≠ some p) : entryOf p r = none := by
  by_contra hne
  obtain ⟨y, hy⟩ := Option.ne_none_iff_exists'.mp hne
  obtain ⟨hp, l, l', rfl, -⟩ := entryOf_eq_some_split hy
  exact h (.port y) (by simp) (congrArg some hp)

end Standing

/-! ### Port events and engine faults (R154, R155) -/

section Events

variable {p : PortId} {x : PortEntry} {l r : List Entry}

theorem addEvent_of_stands (h : EntryStands p x l) (rest : List Entry) (ev : FlagEvent) (w : CondWord) :
    addEvent p ev w (l ++ .port x :: rest) = l ++ .port (x.join ev w) :: rest := by
  obtain ⟨hentry, hmap⟩ := entry_of_stands rest h
  rw [addEvent, hentry]
  exact hmap _

theorem addEvent_of_absent (h : ∀ y ∈ r, y.owner ≠ some p) (ev : FlagEvent) (w : CondWord) :
    addEvent p ev w r = r ++ [.port ((newEntry p w).join ev w)] := by
  rw [addEvent, entryOf_eq_none_of_absent h]

theorem addFault_of_absent (h : ∀ y ∈ r, y.owner ≠ none) (e : EngineId) :
    addFault e r = r ++ [.device { restart := none, faults := oneEngine e }] := by
  rcases addFault_cases e r with ⟨-, heq⟩ | ⟨l, d, l', rfl, -⟩
  · exact heq
  · exact absurd rfl (h (.device d) (by simp))

theorem addFault_of_stands (h : ∀ y ∈ l, y.owner ≠ none) (e : EngineId) (d : DeviceEntry) (rest : List Entry) :
    addFault e (l ++ .device d :: rest) = l ++ .device { d with faults := d.faults ||| oneEngine e } :: rest := by
  induction l with
  | nil => rfl
  | cons y l ih =>
    obtain ⟨hy, hl⟩ := List.forall_mem_cons.mp h
    cases y with
    | device c => exact absurd rfl hy
    | port z => exact congrArg (Entry.port z :: ·) (ih hl)

end Events

/-- Settles O29: an entry that stands by `addEvent_of_stands` and `addFault_of_stands`, a new one at the tail. -/
theorem eventsJoinEntries : Obligations.EventsJoinEntries := by
  refine ⟨fun p ev w r a ha => ?_, fun e r => ⟨fun h => addFault_of_absent h e, ?_⟩⟩
  · obtain rfl : a = fun x => x.join ev w := by
      rw [ha]
      funext x
      cases ev <;> rfl
    refine ⟨fun h => addEvent_of_absent h ev w, ?_⟩
    rintro l x rest rfl hp hl
    exact addEvent_of_stands ⟨hp, hl⟩ rest ev w
  · rintro l d rest rfl hl
    exact addFault_of_stands hl e d rest

/-! ### Fetching (R161) -/

/-- The entries taken are the oldest unheld ones. -/
theorem fetched_eq_take (n : Nat) (r : List Entry) : fetched n r = (r.filter (fun x => x.held = false)).take n := by
  fun_induction fetched n r with
  | case1 | case2 => simp
  | case3 n x rest hx ih => simp [hx, ih]
  | case4 n x rest hx ih => simp [hx, ih]

/-- The unheld entries that are left are the younger ones, in their order. -/
theorem unheld_leftAfter (n : Nat) (r : List Entry) :
    (leftAfter n r).filter (fun x => x.held = false) = (r.filter (fun x => x.held = false)).drop n := by
  fun_induction leftAfter n r with
  | case1 | case2 => simp
  | case3 n x rest hx ih => simpa [hx] using ih
  | case4 n x rest hx ih => simpa [hx] using ih

/-- No held entry leaves. -/
theorem held_leftAfter (n : Nat) (r : List Entry) :
    (leftAfter n r).filter (fun x => x.held = true) = r.filter (fun x => x.held = true) := by
  fun_induction leftAfter n r with
  | case1 | case2 => rfl
  | case3 n x rest hx ih => simpa [hx] using ih
  | case4 n x rest hx ih => simpa [hx] using ih

theorem heldCount_eq (r : List Entry) : heldCount r = (r.filter (fun x => x.held = true)).length := by
  simp [heldCount]

/-- The entries that are not held are those left when the held ones are counted off. -/
theorem length_sub_heldCount (r : List Entry) :
    r.length - heldCount r = (r.filter (fun x => x.held = false)).length := by
  have h := List.length_eq_length_filter_add (l := r) Entry.held
  simp only [Bool.decide_eq_false]
  rw [heldCount]
  omega

/-- What a FETCH_REPORTS takes, and the counts of what it leaves (R161). -/
theorem State.takeReports_taken (s : State) :
    s.takeReports.2 =
      { given := (s.reports.filter (fun x => x.held = false)).take 6,
        unheld := ((s.reports.filter (fun x => x.held = false)).drop 6).length,
        held := (s.reports.filter (fun x => x.held = true)).length } := by
  simp only [takeReports, fetched_eq_take, length_sub_heldCount, unheld_leftAfter]
  rw [heldCount_eq, held_leftAfter]

/-! ### Holds (R157, R159, R162) -/

section Holds

variable {p : PortId} {x : PortEntry} {l r : List Entry} (n : Nat) (w : CondWord)

theorem attachHold_of_absent (h : ∀ y ∈ r, y.owner ≠ some p) :
    attachHold p n w r = r ++ [.port { newEntry p w with hold := some n }] := by
  rw [attachHold, entryOf_eq_none_of_absent h]

/-- The port's entry is held now, or was before and stays as it is (R157). -/
theorem attachHold_of_stands (h : EntryStands p x l) (rest : List Entry) :
    attachHold p n w (l ++ .port x :: rest) =
      if x.hold = none then l ++ .port { x with hold := some n } :: rest else l ++ .port x :: rest := by
  obtain ⟨hentry, hmap⟩ := entry_of_stands rest h
  simp only [attachHold, hentry, hmap, Option.isNone_iff_eq_none]

theorem releaseHold_of_absent (h : ∀ y ∈ r, y.owner ≠ some p) (y : Summary) : releaseHold p n y w r = r := by
  rw [releaseHold, entryOf_eq_none_of_absent h]

/-- A hold for the number is taken off as TEST_DONE joins; an entry without that hold stays (R159). -/
theorem releaseHold_of_stands (h : EntryStands p x l) (rest : List Entry) (y : Summary) :
    releaseHold p n y w (l ++ .port x :: rest) =
      if x.hold = some n then l ++ .port { x.join (.testDone y) w with hold := none } :: rest
      else l ++ .port x :: rest := by
  obtain ⟨hentry, hmap⟩ := entry_of_stands rest h
  simp only [releaseHold, hentry, hmap]

end Holds

/-- The three conditions of a hold (R157). -/
theorem holdWanted_iff {q : Profile} {kind : Option EventKind} :
    holdWanted q kind = true ↔ ∃ k, kind = some k ∧ q.holdReports = true ∧ hasKind q.reportEnables k = true := by
  cases kind <;> simp [holdWanted]

/-- The moment before a hold: a FETCH_REPORTS at hand and not yet taken is taken or left, as the free value says
(R162). -/
theorem State.meetFetch_eq (s : State) :
    s.meetFetch =
      if s.fetchAtHand = true ∧ s.fetch = none
      then { s with
             choices := s.choices + 1,
             reports := if Config.fetchFirst s.choices = true then leftAfter 6 s.reports else s.reports,
             fetch := if Config.fetchFirst s.choices = true then some s.takeReports.2 else none }
      else s := by
  simp only [meetFetch, Bool.and_eq_true, Option.isNone_iff_eq_none]
  refine ite_congr rfl (fun h => ?_) fun _ => rfl
  obtain ⟨-, hnone⟩ := h
  split
  · rfl
  · rw [← hnone]
    rfl

/-- A FETCH_REPORTS that is the next command is at hand on a free line (R183). -/
theorem State.lineFree.fetchAtHand {s : State} (h : s.lineFree) {tag : Byte} {rest : List Instr}
    (hp : s.pending = .fetchReports tag :: rest) : s.fetchAtHand = true := by
  obtain ⟨hlow, hs, ho, hi⟩ := h
  simp only [State.fetchAtHand, frameAtHand, hlow, hp, hs, ho, hi]
  rfl

/-- Settles O30: a notice by `State.meetFetch_eq` and the hold in its place, a completion by the entry it finds. -/
theorem holdsComeAndGo : Obligations.HoldsComeAndGo := by
  rintro s p n kind w rfl
  refine ⟨fun h => ?_, fun k u hk hrep hen hu => ?_, fun tag rest hp hl => hl.fetchAtHand hp,
    fun f => ⟨rfl, s.fetchAtHand_setPending_nil⟩, fun x r => ⟨fun h => releaseHold_of_absent n _ h x, ?_⟩⟩
  · refine if_neg fun hw => ?_
    obtain ⟨k, hk, hwanted⟩ := holdWanted_iff.mp hw
    exact h k hk hwanted
  · obtain rfl : u = s.meetFetch := by rw [hu, State.meetFetch_eq, State.takeReports_taken]
    have hnotice : s.holdNotice p n kind =
        s.meetFetch.setReports (attachHold p n (s.port p).word s.meetFetch.reports) :=
      if_pos (holdWanted_iff.mpr ⟨k, hk, hrep, hen⟩)
    refine ⟨fun h => ?_, fun l x rest hr hp hl => ?_⟩
    · rw [hnotice, attachHold_of_absent n _ h]
      rfl
    · rw [hnotice, hr, attachHold_of_stands n _ ⟨hp, hl⟩]
      split
      · rfl
      · rw [← hr]
        rfl
  · rintro l y rest rfl hp hl
    exact releaseHold_of_stands n _ ⟨hp, hl⟩ rest x

/-! ### The bytes of an entry (R203) -/

/-- A part is sent where it is present, since its presence is what its kind announces. -/
theorem part_of_announced {α : Type} {b : Bool} {o : Option α} (h : o.isSome = b) (f : α → List Byte) :
    part b f o = o.elim [] f := by
  subst h
  cases o <;> rfl

theorem summaryBytes_eq (x : Summary) :
    summaryBytes x =
      bytesOf16 x.number ++ [byteOf x.outcome.code, byteOf x.worst.code, byteOf x.pair.code] ++
        x.distance.elim [0, 0, 0] (fun d => 1 :: bytesOf16 d) := by
  have hpresent : flagByte [true] = 1 := by decide
  have habsent : flagByte [false] = 0 ∧ bytesOf16 0 = [0, 0] := by decide
  rw [summaryBytes]
  cases x.distance with
  | none => simp [habsent]
  | some d => simp [hpresent]

/-- A sound entry is sent with every detail it holds. -/
theorem portEntryBytes_eq {x : PortEntry} (h : x.Detailed) :
    portEntryBytes x =
      [0, byteOf (x.port.val + 1)] ++ bytes16 (x.kinds.setWidth 16) ++ bytes16 (encodeWord x.word) ++
        x.downCause.elim [] (fun c => [byteOf c.code]) ++ x.stallCause.elim [] (fun c => [byteOf c.code]) ++
        x.summary.elim [] summaryBytes := by
  obtain ⟨hdown, hstall, hsummary⟩ := h
  rw [portEntryBytes, part_of_announced hdown, part_of_announced hstall, part_of_announced hsummary, portByte, setBytes]

theorem deviceEntryBytes_eq (x : DeviceEntry) :
    deviceEntryBytes x =
      [1, (if x.restart = none then 0 else 1) + (if x.faults = 0 then 0 else 2)] ++
        x.restart.elim [] (fun c => [byteOf c.code]) ++ (if x.faults = 0 then [] else [x.faults.setWidth 8]) := by
  have hrestart : byteOfBool x.restart.isSome = if x.restart = none then 0 else 1 := by
    cases x.restart <;> rfl
  have hfaults : (if (x.faults != 0) = true then (2 : Byte) else 0) = if x.faults = 0 then 0 else 2 := by
    simp
  rw [deviceEntryBytes, flagByte_two, hrestart, hfaults]
  cases x.restart <;> rfl

/-! ### FETCH_REPORTS and ATTN (R161 to R163, R189) -/

theorem Entry.held_port_iff {x : PortEntry} : (Entry.port x).held = true ↔ x.hold ≠ none :=
  Option.isSome_iff_ne_none

theorem State.attnLow_iff (s : State) :
    s.attnLow = true ↔ s.resetLow = false ∧ ∃ x ∈ s.reports, x.held = false := by
  have hheld : s.attnLow = (!s.resetLow && s.reports.any fun x => !x.held) := by
    refine congrArg (fun f => !s.resetLow && s.reports.any f) (funext fun x => ?_)
    cases x with
    | port y => exact (Option.not_isSome y.hold).symm
    | device d => rfl
  simp [hheld]

/-- The reply carries what was taken already, inside the event before (R162). -/
theorem ownFetchReports_of_some {s : State} {x : Fetched} (h : s.fetch = some x) :
    ownFetchReports s = ({ s with fetch := none }, taken (fetchBody x)) := by
  simp only [ownFetchReports, h]
  rfl

/-- Up to six unheld entries leave the queue now (R161). -/
theorem ownFetchReports_of_none {s : State} (h : s.fetch = none) :
    ownFetchReports s = ({ s with reports := leftAfter 6 s.reports }, taken (fetchBody
      { given := (s.reports.filter (fun x => x.held = false)).take 6,
        unheld := ((s.reports.filter (fun x => x.held = false)).drop 6).length,
        held := (s.reports.filter (fun x => x.held = true)).length })) := by
  rw [← State.takeReports_taken]
  unfold ownFetchReports
  split
  · next x hx => exact nomatch h.symm.trans hx
  · rfl

/-- A FETCH_REPORTS on a free line answers with what its owner takes. -/
theorem exec_fetchReports {s t : State} (hl : s.lineFree) (tag : Byte) {a : Answer} (h : ownFetchReports s = (t, a)) :
    exec (.fetchReports tag) s = .next (t.replied tag 0x95#8 a) := by
  rw [exec_request_of_lineFree hl (r := .fetchReports) rfl rfl, own, h]
  rfl

/-- Settles O31: the owner takes early (R162) or now, the layouts by `portEntryBytes_eq` and `deviceEntryBytes_eq`. -/
theorem fetchReportsTakesSix : Obligations.FetchReportsTakesSix := by
  refine ⟨fun s tag x hl hx => exec_fetchReports hl tag ?_, fun s tag hl hnone => ?_,
    fun x hs => ⟨Entry.held_port_iff, ?_⟩, fun x => ⟨rfl, ?_⟩, State.attnLow_iff⟩
  · exact ownFetchReports_of_some hx
  · refine ⟨_, rfl, exec_fetchReports hl tag ?_, leftAfter_sublist 6 _, unheld_leftAfter 6 _, held_leftAfter 6 _⟩
    exact ownFetchReports_of_none hnone
  · obtain ⟨hd, -⟩ := Entry.sound_port_iff.mp hs
    rw [entryBytes, portEntryBytes_eq hd]
    congr 1
    · congr 1
      · congr 1
        cases x.downCause <;> rfl
      · cases x.stallCause <;> rfl
    · cases x.summary with
      | none => rfl
      | some y =>
        refine (summaryBytes_eq y).trans ?_
        dsimp only
        cases y.distance <;> rfl
  · rw [entryBytes, deviceEntryBytes_eq]
    cases x.restart <;> rfl

end Sys2Proof.Machine
end

section
/-! SUPPORT. The Profile Store's two requests: the clamp of a record, its checks of codes, a stored record read back,
and the write of a range of ports (R166 to R169, R174, R199). -/

namespace Sys2Proof.Machine

/-! ### The clamp of numeric fields (R168) -/

theorem clampTo_eq {lo hi : Nat} (h : lo ≤ hi) (n : Nat) : clampTo lo hi n = max lo (min n hi) := by
  unfold clampTo
  split
  · omega
  · split <;> omega

theorem clampTo_ne_iff {lo hi n : Nat} : clampTo lo hi n ≠ n ↔ n < lo ∨ hi < n := by
  unfold clampTo
  split
  · omega
  · split <;> omega

theorem clampHard_eq {d : Nat} (hd : d ≤ 2047) (n : Nat) : clampHard d n = max (d + 1) (min n 4095) := by
  unfold clampHard
  dsimp only
  split <;> split <;> omega

theorem clampHard_ne_iff {d n : Nat} (hd : d ≤ 2047) : clampHard d n ≠ n ↔ 4095 < n ∨ n ≤ d := by
  rw [clampHard_eq hd]
  omega

theorem rawClamped_detectLevel_le (r : RawProfile) : (rawClamped r).detectLevel ≤ 2047 :=
  (clampTo_mem (show 16 ≤ 2047 by decide) _).2

/-- A record is CLAMPED by the fields outside their ranges. -/
theorem rawWasClamped_iff (r : RawProfile) :
    rawWasClamped r = true ↔
      4 < r.downshiftAfter.toNat ∨ r.holdoffMs.toNat < 100 ∨ 5000 < r.holdoffMs.toNat ∨ r.exchangeMs.toNat < 500 ∨
      10000 < r.exchangeMs.toNat ∨ 50 < r.marginHyst.toNat ∨ r.velocity.toNat < 500 ∨ 900 < r.velocity.toNat ∨
      r.detectLevel.toNat < 16 ∨ 2047 < r.detectLevel.toNat ∨ 4095 < r.hardLevel.toNat ∨
      r.hardLevel.toNat ≤ (rawClamped r).detectLevel ∨ r.crossLevel.toNat < 16 ∨ 4095 < r.crossLevel.toNat ∨
      r.noiseLimit.toNat < 4 ∨ 512 < r.noiseLimit.toNat ∨ 7 < r.autoPriority.toNat ∨ 6 < r.autoAvg.toNat ∨
      7 < r.recheckPriority.toNat := by
  have hhard : (rawClamped r).hardLevel ≠ r.hardLevel.toNat ↔
      4095 < r.hardLevel.toNat ∨ r.hardLevel.toNat ≤ (rawClamped r).detectLevel :=
    clampHard_ne_iff (rawClamped_detectLevel_le r)
  simp only [rawWasClamped, Bool.or_eq_true, bne_iff_ne, hhard, or_assoc]
  simp only [rawClamped, clampTo_ne_iff, Nat.not_lt_zero, false_or, or_assoc]

/-- Settles O18: each numeric field by its clamp, hard_level above the clamped detect_level. -/
theorem profileClamp : Obligations.ProfileClamp := by
  intro r hv
  refine ⟨rawClamped_sound hv, clampTo_zero _ _, clampTo_eq (by decide) _, clampTo_eq (by decide) _, rfl,
    clampTo_zero _ _, rfl, clampTo_eq (by decide) _, rfl, clampTo_eq (by decide) _,
    clampHard_eq (rawClamped_detectLevel_le r) _, clampTo_eq (by decide) _, clampTo_eq (by decide) _, clampTo_zero _ _,
    clampTo_zero _ _, rfl, clampTo_zero _ _, rawWasClamped_iff r⟩

/-! ### The checks of codes (R167) -/

theorem LinkMode.isSome_ofCode_iff : ∀ {n : Nat}, (LinkMode.ofCode n).isSome = true ↔ n ≤ 1
  | 0 | 1 => by decide
  | n + 2 => by simp [LinkMode.ofCode]

theorem speedOfCode_isSome_iff : ∀ {n : Nat}, (Speed.ofCode n).isSome = true ↔ 1 ≤ n ∧ n ≤ 5
  | 0 | 1 | 2 | 3 | 4 | 5 => by decide
  | n + 6 => by simp [Speed.ofCode]

theorem roleClassOfCode_isSome_iff : ∀ {n : Nat}, (RoleClass.ofCode n).isSome = true ↔ n ≤ 3
  | 0 | 1 | 2 | 3 => by decide
  | n + 4 => by simp [RoleClass.ofCode]

theorem Reach.isSome_ofCode_iff : ∀ {n : Nat}, (Reach.ofCode n).isSome = true ↔ n ≤ 3
  | 0 | 1 | 2 | 3 => by decide
  | n + 4 => by simp [Reach.ofCode]

theorem RecheckMode.isSome_ofCode_iff : ∀ {n : Nat}, (RecheckMode.ofCode n).isSome = true ↔ n ≤ 1
  | 0 | 1 => by decide
  | n + 2 => by simp [RecheckMode.ofCode]

theorem boolOfCode_isSome_iff : ∀ {n : Nat}, (boolOfCode n).isSome = true ↔ n ≤ 1
  | 0 | 1 => by decide
  | n + 2 => by simp [boolOfCode]

/-- A mask over the low bits of a word sees nothing of the word's other bits. -/
theorem setWidth_and_eq_zero_iff {v w : Nat} (h : v ≤ w) (x : BitVec w) (m : BitVec v) :
    x.setWidth v &&& m = 0 ↔ x &&& m.setWidth w = 0 := by
  have hlow : x &&& m.setWidth w = (x.setWidth v &&& m).setWidth w := by
    ext i hi
    by_cases hv : i < v
    · simp [hv, hi]
    · simp [hv, BitVec.getLsbD_of_ge m i (not_lt.mp hv)]
  rw [hlow, ← BitVec.toNat_inj, ← BitVec.toNat_inj, BitVec.toNat_setWidth_of_le h]
  simp

/-- The reserved bits of allowed_speeds are ignored (R194). -/
theorem setWidth_speeds_eq_zero_iff (b : Byte) : b.setWidth 5 = 0#5 ↔ b &&& 0x1F#8 = 0 := by
  have h := setWidth_and_eq_zero_iff (by decide) b (BitVec.allOnes 5)
  rwa [BitVec.and_allOnes] at h

/-- The reserved bits of auto_triggers are ignored, and its foreign kinds are 0169h (R60, R194). -/
theorem foreign_triggers_eq_zero_iff (w : Word) : kindsOf w &&& ~~~triggerKinds = 0#9 ↔ w &&& 0x0169#16 = 0 :=
  setWidth_and_eq_zero_iff (by decide) w (~~~triggerKinds)

/-- Checks 2 to 4 of R167, on the bytes as sent. -/
theorem rawValid_iff (r : RawProfile) :
    rawValid r = true ↔
      r.linkMode.toNat ≤ 1 ∧ (1 ≤ r.forcedSpeed.toNat ∧ r.forcedSpeed.toNat ≤ 5) ∧ r.roleClass.toNat ≤ 3 ∧
      r.autoReach.toNat ≤ 3 ∧ r.autoCapture.toNat ≤ 1 ∧ r.holdReports.toNat ≤ 1 ∧ r.recheckMode.toNat ≤ 1 ∧
      r.allowedSpeeds &&& 0x1F#8 ≠ 0 ∧ r.autoTriggers &&& 0x0169#16 = 0 := by
  simp only [rawValid, Bool.and_eq_true, bne_iff_ne, beq_iff_eq, LinkMode.isSome_ofCode_iff, speedOfCode_isSome_iff,
    roleClassOfCode_isSome_iff, Reach.isSome_ofCode_iff, RecheckMode.isSome_ofCode_iff, boolOfCode_isSome_iff, ne_eq,
    setWidth_speeds_eq_zero_iff, foreign_triggers_eq_zero_iff, and_assoc]

/-! ### A stored record read back (R174, R199) -/

theorem clampHard_of_mem {d n : Nat} (h : d + 1 ≤ n) (h' : n ≤ 4095) : clampHard d n = n := by
  unfold clampHard
  dsimp only
  rw [if_neg (not_lt.mpr h'), if_neg (not_le.mpr h)]

theorem rawProfile_length_bytes (r : RawProfile) : r.bytes.length = 36 := by
  simp [RawProfile.bytes, bytes16]

theorem LinkMode.ofCode_byteOf (x : LinkMode) : LinkMode.ofCode (byteOf x.code).toNat = some x := by cases x <;> rfl

theorem speedOfCode_byteOf (x : Speed) : Speed.ofCode (byteOf x.code).toNat = some x := by cases x <;> rfl

theorem roleClassOfCode_byteOf (x : RoleClass) : RoleClass.ofCode (byteOf x.code).toNat = some x := by cases x <;> rfl

theorem Reach.ofCode_byteOf (x : Reach) : Reach.ofCode (byteOf x.code).toNat = some x := by cases x <;> rfl

theorem RecheckMode.ofCode_byteOf (x : RecheckMode) : RecheckMode.ofCode (byteOf x.code).toNat = some x := by
  cases x <;> rfl

theorem boolOfCode_byteOfBool (b : Bool) : boolOfCode (byteOfBool b).toNat = some b := by cases b <;> rfl

/-- The codes and sets of a stored profile read back from its record. -/
theorem Profile.raw_codes (q : Profile) :
    LinkMode.ofCode (Profile.raw q).linkMode.toNat = some q.linkMode ∧
    (Profile.raw q).allowedSpeeds.setWidth 5 = q.allowed ∧
    Speed.ofCode (Profile.raw q).forcedSpeed.toNat = some q.forced ∧
    RoleClass.ofCode (Profile.raw q).roleClass.toNat = some q.roleClass ∧
    kindsOf (Profile.raw q).reportEnables = q.reportEnables ∧ kindsOf (Profile.raw q).autoTriggers = q.autoTriggers ∧
    Reach.ofCode (Profile.raw q).autoReach.toNat = some q.autoReach ∧
    boolOfCode (Profile.raw q).autoCapture.toNat = some q.autoCapture ∧
    boolOfCode (Profile.raw q).holdReports.toNat = some q.holdReports ∧
    RecheckMode.ofCode (Profile.raw q).recheckMode.toNat = some q.recheckMode :=
  ⟨LinkMode.ofCode_byteOf _, BitVec.setWidth_setWidth_of_le _ (by decide), speedOfCode_byteOf _,
    roleClassOfCode_byteOf _, BitVec.setWidth_setWidth_of_le _ (by decide),
    BitVec.setWidth_setWidth_of_le _ (by decide), Reach.ofCode_byteOf _, boolOfCode_byteOfBool _,
    boolOfCode_byteOfBool _, RecheckMode.ofCode_byteOf _⟩

namespace Profile.sound

variable {q : Profile} (h : q.sound)

include h

/-- Every number of a sound profile fits its field of the record. -/
theorem raw_toNat :
    (Profile.raw q).downshiftAfter.toNat = q.downshiftAfter ∧ (Profile.raw q).holdoffMs.toNat = q.holdoffMs ∧
    (Profile.raw q).exchangeMs.toNat = q.exchangeMs ∧ (Profile.raw q).marginAlarm.toNat = q.marginAlarm ∧
    (Profile.raw q).marginHyst.toNat = q.marginHyst ∧ (Profile.raw q).marginDrop.toNat = q.marginDrop ∧
    (Profile.raw q).velocity.toNat = q.velocity ∧ (Profile.raw q).lossSlope.toNat = q.lossSlope ∧
    (Profile.raw q).detectLevel.toNat = q.detectLevel ∧ (Profile.raw q).hardLevel.toNat = q.hardLevel ∧
    (Profile.raw q).crossLevel.toNat = q.crossLevel ∧ (Profile.raw q).noiseLimit.toNat = q.noiseLimit ∧
    (Profile.raw q).autoPriority.toNat = q.autoPriority ∧ (Profile.raw q).autoAvg.toNat = q.autoAvg ∧
    (Profile.raw q).recheckS.toNat = q.recheckS ∧ (Profile.raw q).recheckPriority.toNat = q.recheckPriority := by
  unfold Profile.sound at h
  simp only [Profile.raw, byteOf, BitVec.toNat_ofNat]
  omega

theorem rawValid_raw : rawValid (Profile.raw q) = true := by
  have htriggers : q.autoTriggers &&& ~~~triggerKinds = 0 := by
    unfold Profile.sound at h
    tauto
  simpa [rawValid, q.raw_codes, htriggers] using h.allowed_ne

/-- Every number of a sound profile is in range, so the clamp keeps it. -/
theorem rawClamped_raw : rawClamped (Profile.raw q) = q := by
  have hranges := h
  unfold Profile.sound at hranges
  simp only [rawClamped, q.raw_codes, h.raw_toNat, clampTo_of_mem, clampHard_of_mem, hranges, Nat.zero_le,
    Option.getD_some]

theorem rawWasClamped_raw : rawWasClamped (Profile.raw q) = false := by
  simp [rawWasClamped, h.rawClamped_raw, h.raw_toNat]

end Profile.sound

/-- Settles O21: the record's bytes by `RawProfile.ofBytes_bytes`, its codes by `Profile.raw_codes`, its numbers by
`Profile.sound.raw_toNat`. -/
theorem profileReadsBack : Obligations.ProfileReadsBack := by
  refine ⟨fun s tag port hl => ?_, fun q h =>
    ⟨rawProfile_length_bytes _, RawProfile.ofBytes_bytes _, h.rawValid_raw, h.rawClamped_raw, h.rawWasClamped_raw⟩⟩
  rw [exec_request_of_lineFree hl (r := .getProfile port) rfl rfl, own, ownGetProfile]
  refine ⟨fun hn => ?_, fun p hp => ?_⟩
  · rw [withPort_of_noPort hn]
    rfl
  · rw [withPort_of_portIs hp, portByte_of_portIs hp]
    rfl

/-! ### SET_PROFILE over a range of ports (R167, R169, R192) -/

theorem portOf_eq_some_iff {b : Byte} {p : PortId} : portOf b = some p ↔ portIs b p := by
  refine ⟨fun h => ?_, fun h => by rw [← portByte_of_portIs h, portOf_portByte]⟩
  unfold portOf at h
  split at h
  · next hb =>
    obtain rfl := Option.some.inj h
    exact (Nat.sub_add_cancel hb.1).symm
  · exact nomatch h

theorem mem_portRange {a b p : PortId} : p ∈ portRange a b ↔ a ≤ p ∧ p ≤ b := by
  simp [portRange, allPorts]

/-- A range that names no port or runs backward is BAD_PORT (R167, check 1). -/
theorem ownSetProfile_of_bad_range {first last : Byte} (h : noPort first ∨ noPort last ∨ last.toNat < first.toNat)
    (r : RawProfile) (s : State) : ownSetProfile first last r s = (s, refuse .badPort) := by
  unfold ownSetProfile
  split
  · next a b ha hb =>
    have hba : b < a := by
      rw [portOf_eq_some_iff, portIs] at ha hb
      simp only [noPort, Fin.lt_def] at h ⊢
      omega
    rw [if_pos hba]
  · rfl

section Range

variable {first last : Byte} {a b : PortId} (ha : portIs first a) (hb : portIs last b) (hab : a ≤ b) {r : RawProfile}

include ha hb hab

theorem ownSetProfile_of_invalid (hr : rawValid r = false) (s : State) :
    ownSetProfile first last r s = (s, refuse .badValue) := by
  simp only [ownSetProfile, portOf_eq_some_iff.mpr ha, portOf_eq_some_iff.mpr hb, hr, if_neg (not_lt.mpr hab),
    Bool.false_eq_true, if_false]

theorem ownSetProfile_of_valid (hr : rawValid r = true) (s : State) :
    ownSetProfile first last r s =
      (s.apart fun s => ((portRange a b).foldl (fun s p => s.writeProfile (rawClamped r) p) s).settle,
        takenClamped (rawWasClamped r) ([first, last] ++ (Profile.raw (rawClamped r)).bytes)) := by
  simp only [ownSetProfile, portOf_eq_some_iff.mpr ha, portOf_eq_some_iff.mpr hb, hr, if_neg (not_lt.mpr hab), if_true]

end Range

/-- Writing a profile to several ports stores it at each of them. -/
theorem State.profile_writes (s : State) (r : Profile) (ps : List PortId) (p : PortId) :
    (ps.foldl (fun s p => s.writeProfile r p) s).profile p = if p ∈ ps then r else s.profile p := by
  induction ps generalizing s with
  | nil => simp
  | cons x rest ih =>
    obtain ⟨hself, hne, -⟩ := profileWriteConsequences s _ r _ x rfl rfl
    rw [List.foldl_cons, ih]
    by_cases hx : p = x
    · subst hx
      simp [hself]
    · simp [hx, (hne p hx).1]

/-- Writing a profile to several ports leaves the record and the recheck timer of every other port. -/
theorem State.writes_of_not_mem (s : State) (r : Profile) {ps : List PortId} {p : PortId} (h : p ∉ ps) :
    (ps.foldl (fun s p => s.writeProfile r p) s).port p = s.port p ∧
    (ps.foldl (fun s p => s.writeProfile r p) s).recheckOf p = s.recheckOf p := by
  induction ps generalizing s with
  | nil => exact ⟨rfl, rfl⟩
  | cons x rest ih =>
    obtain ⟨hx, hrest⟩ := not_or.mp (mt List.mem_cons.mpr h)
    obtain ⟨-, hne, -⟩ := profileWriteConsequences s _ r _ x rfl rfl
    obtain ⟨-, hport, hrecheck⟩ := hne p hx
    obtain ⟨hp, hr⟩ := ih (s.writeProfile r x) hrest
    exact ⟨hp.trans hport, hr.trans hrecheck⟩

/-- Settles O19: the refusals by `ownSetProfile_of_bad_range` and `rawValid_iff`, the writes by `State.profile_writes`
and `State.writes_of_not_mem`. -/
theorem setProfileWritesRange : Obligations.SetProfileWritesRange := by
  intro s tag first last r hl
  rw [exec_request_of_lineFree hl (r := .setProfile first last r) rfl rfl, own]
  refine ⟨fun hbad => ?_, fun a b ha hb hab => ⟨fun hbad => ?_, ?_⟩⟩
  · rw [ownSetProfile_of_bad_range hbad]
    rfl
  · have hr : rawValid r = false := by
      rw [Bool.eq_false_iff, ne_eq, rawValid_iff]
      rintro ⟨hlink, hforced, hrole, hreach, hcapture, hhold, hmode, hspeeds, htriggers⟩
      simp only [hspeeds, htriggers, ne_eq, not_true_eq_false, or_false] at hbad
      omega
    rw [ownSetProfile_of_invalid ha hb hab hr]
    rfl
  · rintro hlink hforced hforced' hrole hreach hcapture hhold hmode hspeeds htriggers write t rfl rfl
    have hr : rawValid r = true :=
      (rawValid_iff r).mpr ⟨hlink, ⟨hforced, hforced'⟩, hrole, hreach, hcapture, hhold, hmode, hspeeds, htriggers⟩
    refine ⟨?_, fun p => ?_, fun p hp => ?_⟩
    · rw [ownSetProfile_of_valid ha hb hab hr]
      rfl
    · simp only [State.apart_profile, State.profile_writes, mem_portRange, State.setPending_profile]
    · exact State.writes_of_not_mem (s.setPending []) (rawClamped r) (mt mem_portRange.mp hp)

end Sys2Proof.Machine
end

section
/-! SUPPORT. Requests and their bodies: what each kind's reader makes of a body, so that every body of its kind's length is
a request and every other length is turned away (R186, R197 to R200). -/

namespace Sys2Proof

/-! ### Bytes of words (R194) -/

@[simp] theorem hiByte_word16 (a b : Byte) : hiByte (word16 a b) = a := BitVec.extractLsb'_append_eq_left

@[simp] theorem loByte_word16 (a b : Byte) : loByte (word16 a b) = b := BitVec.extractLsb'_append_eq_right

@[simp] theorem bytes16_word16 (a b : Byte) : bytes16 (word16 a b) = [a, b] := by simp [bytes16]

@[simp] theorem bytes24_word24 (a b c : Byte) : bytes24 (word24 a b c) = [a, b, c] := by
  have ha : (word24 a b c).extractLsb' 16 8 = a :=
    (BitVec.extractLsb'_append_eq_of_le (by decide)).trans BitVec.extractLsb'_append_eq_left
  have hb : (word24 a b c).extractLsb' 8 8 = b :=
    (BitVec.extractLsb'_append_eq_of_le (by decide)).trans BitVec.extractLsb'_append_eq_right
  have hc : (word24 a b c).extractLsb' 0 8 = c := BitVec.extractLsb'_append_eq_right
  rw [bytes24, ha, hb, hc]

@[simp] theorem byteOf_toNat (b : Byte) : byteOf b.toNat = b := by simp [byteOf]

/-! ### Page entries and profile records (R197, R199) -/

/-- The pages read from a run of bytes have just these bytes. -/
theorem flatMap_bytes_of_pagesOfBytes : ∀ {l : List Byte} {gs : List Page}, pagesOfBytes l = some gs →
    gs.flatMap Page.bytes = l
  | [], _, h => by
    obtain rfl := Option.some.inj h
    rfl
  | _ :: _ :: _ :: _ :: rest, _, h => by
    obtain ⟨gs, hgs, rfl⟩ := Option.map_eq_some_iff.mp h
    simp [Page.bytes, flatMap_bytes_of_pagesOfBytes hgs]

/-- A run whose length is a multiple of four is a run of page entries. -/
theorem exists_pagesOfBytes : ∀ {n : Nat} {l : List Byte}, l.length = 4 * n →
    ∃ gs, pagesOfBytes l = some gs ∧ gs.length = n
  | 0, [], _ => ⟨[], rfl, rfl⟩
  | n + 1, _ :: _ :: _ :: _ :: rest, h => by
    have hr : rest.length = 4 * n := by
      simp only [List.length_cons] at h
      omega
    obtain ⟨gs, hgs, hn⟩ := exists_pagesOfBytes hr
    exact ⟨_ :: gs, congrArg (Option.map _) hgs, congrArg Nat.succ hn⟩
  | _ + 1, [], h | _ + 1, [_], h | _ + 1, [_, _], h | _ + 1, [_, _, _], h => by
    simp only [List.length_cons, List.length_nil] at h
    omega

@[simp] theorem length_flatMap_bytes (gs : List Page) : (gs.flatMap Page.bytes).length = 4 * gs.length := by
  induction gs with
  | nil => rfl
  | cons g gs ih =>
    rw [List.flatMap_cons, List.length_append, ih, List.length_cons, Nat.mul_succ, Nat.add_comm]
    rfl

/-- The profile record read from a run of bytes has just these bytes. -/
theorem RawProfile.bytes_of_ofBytes {l : List Byte} {r : RawProfile} (h : RawProfile.ofBytes l = some r) :
    r.bytes = l := by
  unfold RawProfile.ofBytes at h
  split at h
  · obtain rfl := Option.some.inj h
    simp [RawProfile.bytes]
  · exact nomatch h

/-- Every 36 bytes are a profile record. -/
theorem RawProfile.exists_ofBytes : ∀ {l : List Byte}, l.length = 36 → ∃ r, RawProfile.ofBytes l = some r
  | _ :: _ :: _ :: _ :: _ :: _ :: _ :: _ :: _ :: _ :: _ :: _ :: _ :: _ :: _ :: _ :: _ :: _ :: _ :: _ :: _ :: _ :: _ ::
      _ :: _ :: _ :: _ :: _ :: _ :: _ :: _ :: _ :: _ :: _ :: _ :: [_], _ => ⟨_, rfl⟩

@[simp] theorem RawProfile.length_bytes (r : RawProfile) : r.bytes.length = 36 := rfl

/-! ### The readers (R186, R198) -/

/-- What is found in a body `b` of kind `k`: the request of just this kind and body where its length is `good`, and else
BAD_LENGTH. -/
def Parsed.Exact (good : Prop) (k : Byte) (b : List Byte) (x : Parsed) : Prop :=
  (good → ∃ r, x = .request r ∧ r.kind = k ∧ r.body = b) ∧ (¬good → x = .badLength)

namespace Parsed.Exact

variable {good : Prop} {k : Byte} {b : List Byte} {r : Request}

theorem of_request (hg : good) (hk : r.kind = k) (hb : r.body = b) : (Parsed.request r).Exact good k b :=
  ⟨fun _ => ⟨r, rfl, hk, hb⟩, fun h => absurd hg h⟩

theorem of_badLength (hg : ¬good) : Parsed.badLength.Exact good k b := ⟨fun h => absurd h hg, fun _ => rfl⟩

end Parsed.Exact

theorem read0_exact {r : Request} (hr : r.body = []) (b : List Byte) :
    (read0 r b).Exact (b.length = 0) r.kind b := by
  match b with
  | [] => exact .of_request rfl rfl hr
  | _ :: _ => exact .of_badLength nofun

theorem read1_exact {f : Byte → Request} {k : Byte} (hk : ∀ x, (f x).kind = k) (hf : ∀ x, (f x).body = [x])
    (b : List Byte) : (read1 f b).Exact (b.length = 1) k b := by
  match b with
  | [x] => exact .of_request rfl (hk x) (hf x)
  | [] | _ :: _ :: _ => exact .of_badLength nofun

theorem readSetProfile_exact (b : List Byte) : (readSetProfile b).Exact (b.length = 38) 0x03#8 b := by
  match b with
  | [] | [_] => exact .of_badLength nofun
  | f :: l :: rest =>
    by_cases h : rest.length = 36
    · obtain ⟨r, hr⟩ := RawProfile.exists_ofBytes h
      rw [show readSetProfile (f :: l :: rest) = .request (.setProfile f l r) by simp only [readSetProfile, hr]]
      refine .of_request (by simp [h]) rfl ?_
      rw [Request.body, RawProfile.bytes_of_ofBytes hr]
    · have hn : RawProfile.ofBytes rest = none :=
        Option.eq_none_iff_forall_not_mem.mpr fun r hr => h (RawProfile.bytes_of_ofBytes hr ▸ r.length_bytes)
      rw [show readSetProfile (f :: l :: rest) = .badLength by simp only [readSetProfile, hn]]
      exact .of_badLength (by simpa using h)

theorem readPages_exact (b : List Byte) :
    (readPages b).Exact (2 ≤ b.length ∧ b.length = 2 + 4 * (b.getD 1 0).toNat) 0x0B#8 b := by
  match b with
  | [] | [_] => exact .of_badLength fun h => absurd h.1 (by simp)
  | p :: n :: rest =>
    have hlen : (2 ≤ (p :: n :: rest).length ∧ (p :: n :: rest).length = 2 + 4 * ((p :: n :: rest).getD 1 0).toNat) ↔
        rest.length = 4 * n.toNat := by
      simp only [List.length_cons, List.getD_cons_succ, List.getD_cons_zero]
      omega
    rw [hlen]
    by_cases h : rest.length = 4 * n.toNat
    · obtain ⟨gs, hgs, hn⟩ := exists_pagesOfBytes h
      rw [show readPages (p :: n :: rest) = .request (.loadPages p gs) by simp only [readPages, hgs, hn, if_true]]
      refine .of_request h rfl ?_
      rw [Request.body, flatMap_bytes_of_pagesOfBytes hgs, hn, byteOf_toNat]
    · have hbad : readPages (p :: n :: rest) = .badLength := by
        unfold readPages
        dsimp only
        split
        · next gs hgs =>
          rw [← flatMap_bytes_of_pagesOfBytes hgs, length_flatMap_bytes] at h
          exact if_neg fun hn => h (congrArg (4 * ·) hn)
        · rfl
      rw [hbad]
      exact .of_badLength h

end Sys2Proof

namespace Sys2Proof.Machine

/-! ### Every kind (R186, R197) -/

theorem eq_ofNat_of_toNat {k : Byte} {m : Nat} (h : k.toNat = m) : k = BitVec.ofNat 8 m := by
  rw [← h, BitVec.ofNat_toNat, BitVec.setWidth_eq]

/-- Every kind of fixed body length reads exactly the bodies of that length. -/
theorem parseRequest_exact {k : Byte} {n : Nat} (h : bodyLength k.toNat = some n) (b : List Byte) :
    (parseRequest k b).Exact (b.length = n) k b := by
  unfold bodyLength at h
  split at h
  case h_22 => cases h
  all_goals
    rename_i hk
    obtain rfl := eq_ofNat_of_toNat hk
    cases h
  -- IDENTIFY, FETCH_REPORTS and GET_SUMMARY carry nothing.
  case h_1 | h_20 | h_21 => exact read0_exact rfl b
  case h_3 => exact readSetProfile_exact b
  -- SET_ADMIN
  case h_5 =>
    match b with
    | [_, _] => exact .of_request rfl rfl rfl
    | [] | [_] | _ :: _ :: _ :: _ => exact .of_badLength nofun
  -- CLEAR_FLAGS and CANCEL_TEST
  case h_8 | h_14 =>
    match b with
    | [_, _, _] => exact .of_request rfl rfl (by simp [Request.body])
    | [] | [_] | [_, _] | _ :: _ :: _ :: _ :: _ => exact .of_badLength nofun
  -- SET_WATCH
  case h_9 =>
    match b with
    | [_, _, _, _, _] => exact .of_request rfl rfl (by simp [Request.body])
    | [] | [_] | [_, _] | [_, _, _] | [_, _, _, _] | _ :: _ :: _ :: _ :: _ :: _ :: _ => exact .of_badLength nofun
  -- START_TEST and READ_TRACE
  case h_13 | h_18 =>
    match b with
    | [_, _, _, _, _, _] => exact .of_request rfl rfl (by simp [Request.body])
    | [] | [_] | [_, _] | [_, _, _] | [_, _, _, _] | [_, _, _, _, _] | _ :: _ :: _ :: _ :: _ :: _ :: _ :: _ =>
      exact .of_badLength nofun
  all_goals refine read1_exact (fun _ => ?_) (fun _ => ?_) b <;> rfl

theorem parseRequest_of_unknown {k : Byte} (h : k.toNat = 0 ∨ 0x16 < k.toNat) (b : List Byte) :
    parseRequest k b = .unknownKind := by
  unfold parseRequest
  split
  case h_23 => rfl
  all_goals omega

/-- Settles O3: requests read back by `parseRequest_kind_body`, bodies by `parseRequest_exact` and `readPages_exact`. -/
theorem bodiesReadBack : Obligations.BodiesReadBack := by
  refine ⟨fun r hw => parseRequest_kind_body hw, fun k b => ⟨fun h => parseRequest_of_unknown h b, fun n hn => ?_, ?_⟩⟩
  · obtain ⟨hgood, hbad⟩ := parseRequest_exact hn b
    split
    · next h => exact hgood h
    · next h => exact hbad h
  · rintro rfl
    obtain ⟨hgood, hbad⟩ := readPages_exact b
    split
    · next h => exact hgood h
    · next h => exact hbad h

end Sys2Proof.Machine
end

section
/-! SUPPORT. The management line: what the receiver makes of each character and of a whole frame, the inbox and the reply
sender, and the invariant that every step keeps (R176 to R186, R189). -/

namespace Sys2Proof

/-! ### Frames and levels (R176 to R178) -/

/-- Two words with the same bytes are one word. -/
theorem bytes16_inj {v w : Word} (h : bytes16 v = bytes16 w) : v = w := by
  simp only [bytes16, List.cons.injEq, and_true] at h
  obtain ⟨hhi, hlo⟩ := h
  rw [← word16_hiByte_loByte v, hhi, hlo, word16_hiByte_loByte]

theorem length_bytes16 (w : Word) : (bytes16 w).length = 2 := rfl

/-- The LEN of a frame (R177). -/
def Frame.len (f : Frame) : Nat := f.body.length + 2

/-- TAG, KIND and BODY of a frame: what LEN counts. -/
def Frame.counted (f : Frame) : List Byte := f.tag :: f.kind :: f.body

theorem Frame.length_counted (f : Frame) : f.counted.length = f.len := rfl

theorem Frame.covered_eq (f : Frame) : f.covered = byteOf f.len :: f.counted := rfl

/-- The characters after a frame's LEN are good exactly with the CRC of the frame (R181). -/
theorem goodFrame_counted (f : Frame) (c : Word) :
    goodFrame f.len (f.counted ++ bytes16 c) = if c = crc16 f.covered then some f else none := by
  have hdrop : (f.counted ++ bytes16 c).drop f.len = bytes16 c := List.drop_left' f.length_counted
  have htake : (f.counted ++ bytes16 c).take f.len = f.counted := List.take_left' f.length_counted
  rw [goodFrame, hdrop, htake, ← Frame.covered_eq]
  by_cases h : c = crc16 f.covered
  · rw [if_pos h, if_pos (congrArg bytes16 h)]
    rfl
  · rw [if_neg h, if_neg fun hb => h (bytes16_inj hb)]

/-- The body of a well-formed request fits a frame (R177, R197). -/
theorem Request.length_body_le {r : Request} (h : r.wf = true) : r.body.length ≤ 242 := by
  cases r with
  | loadPages p gs =>
    have hl : gs.length ≤ 60 := by simpa [Request.wf, pagesFit] using h
    simp only [Request.body, List.length_cons, length_flatMap_bytes]
    omega
  | _ => simp [Request.body, bytes16]

theorem characterLevels_eq (c : Byte) :
    characterLevels c = [false] ++ (List.range 8).map (fun i => c.getLsbD i) ++ [true] := rfl

/-- Ten levels spell their character, with a framing error where the stop bit is low (R176). -/
theorem characterOf_levels (c : Byte) (stop : Bool) :
    characterOf ([false] ++ (List.range 8).map (fun i => c.getLsbD i) ++ [stop]) = some (c, !stop) := by
  refine congrArg (fun x => some (x, !stop)) (BitVec.eq_of_getLsbD_eq fun i hi => ?_)
  interval_cases i <;> simp

namespace Machine

/-! ### The receiver, character by character (R179 to R181) -/

theorem exec_mrxCharacter {s : State} (h : s.resetLow = false) (c : Byte) (framingError : Bool) :
    exec (.mrxCharacter c framingError) s = .next (s.character c framingError) := by
  show Host.Outcome.next (if s.resetLow then s else s.character c framingError) = _
  rw [h]
  rfl

namespace State

variable {s : State} (c : Byte) (framingError : Bool)

theorem character_of_hunt (h : s.receiver = .hunt) :
    s.character c framingError = if framingError = false ∧ c = 0xA5#8 then s.setReceiver (.frame none []) else s := by
  simp [character, h]

theorem character_of_len {bytes : List Byte} (h : s.receiver = .frame none bytes) :
    s.character c framingError = s.setReceiver
      (if framingError = false ∧ 2 ≤ c.toNat ∧ c.toNat ≤ 244 then .frame (some c.toNat) [] else .hunt) := by
  have hbad : (framingError || decide (c.toNat < 2) || decide (244 < c.toNat)) = true ↔
      ¬(framingError = false ∧ 2 ≤ c.toNat ∧ c.toNat ≤ 244) := by
    cases framingError
    · simp only [Bool.false_or, Bool.or_eq_true, decide_eq_true_eq, true_and]
      omega
    · simp
  simp only [character, h, hbad]
  by_cases hc : framingError = false ∧ 2 ≤ c.toNat ∧ c.toNat ≤ 244
  · rw [if_neg (not_not.mpr hc), if_pos hc]
  · rw [if_pos hc, if_neg hc]

theorem character_of_framingError {n : Nat} {bytes : List Byte} (h : s.receiver = .frame (some n) bytes) :
    s.character c true = s.setReceiver .hunt := by
  simp [character, h]

theorem character_of_unfinished {n : Nat} {bytes : List Byte} (h : s.receiver = .frame (some n) bytes)
    (hl : bytes.length + 1 < n + 2) : s.character c false = s.setReceiver (.frame (some n) (bytes ++ [c])) := by
  simp [character, h, hl]

theorem character_of_last {n : Nat} {bytes : List Byte} (h : s.receiver = .frame (some n) bytes)
    (hl : n + 2 ≤ bytes.length + 1) : s.character c false = s.frameComplete n (bytes ++ [c]) := by
  simp [character, h, Nat.not_lt.mpr hl]

end State

/-! ### A whole frame (R180, R181) -/

theorem runAll_characters_cons {s : State} (h : s.resetLow = false) (c : Byte) (xs : List Byte) :
    runAll (characters (c :: xs)) s = runAll (characters xs) (s.character c false) := by
  rw [characters, List.map_cons, runAll, exec_mrxCharacter h, characters]

/-- The rest of a frame in collection is counted and not examined, and then the frame is complete. -/
theorem runAll_characters_of_collecting {n : Nat} {xs pre : List Byte} {s : State} (hlow : s.resetLow = false)
    (hr : s.receiver = .frame (some n) pre) (hpre : pre.length < n + 2) (hlen : pre.length + xs.length = n + 2) :
    runAll (characters xs) s = .next (s.frameComplete n (pre ++ xs)) := by
  induction xs generalizing pre s with
  | nil => exact absurd hlen hpre.ne
  | cons c xs ih =>
    rw [List.length_cons] at hlen
    rw [runAll_characters_cons hlow]
    by_cases hlast : pre.length + 1 < n + 2
    · rw [State.character_of_unfinished c hr hlast, ih (s := s.setReceiver (.frame (some n) (pre ++ [c]))) hlow rfl
        (by simpa using hlast) (by simp; omega), List.append_assoc]
      rfl
    · obtain rfl : xs = [] := List.length_eq_zero_iff.mp (by omega)
      rw [State.character_of_last c hr (by omega)]
      rfl

/-- A complete frame in collection is offered, or the receiver is as it was before the frame. -/
theorem State.frameComplete_counted {s : State} (h : s.receiver = .hunt) (x : Receiver) (f : Frame) (c : Word) :
    (s.setReceiver x).frameComplete f.len (f.counted ++ bytes16 c) =
      if c = crc16 f.covered then s.offerFrame f else s := by
  have hhunt : (s.setReceiver x).setReceiver .hunt = s := by
    rw [← h]
    rfl
  simp only [State.frameComplete, hhunt, goodFrame_counted]
  by_cases hc : c = crc16 f.covered
  · simp only [if_pos hc]
  · simp only [if_neg hc]

/-- The characters of a whole frame with some CRC: the frame is offered if it is the frame's own, and else nothing has
happened. -/
theorem runAll_characters_of_frame {s : State} (hlow : s.resetLow = false) (hr : s.receiver = .hunt) {f : Frame}
    (hf : f.body.length ≤ 242) (c : Word) :
    runAll (characters (0xA5#8 :: (f.covered ++ bytes16 c))) s =
      .next (if c = crc16 f.covered then s.offerFrame f else s) := by
  have hlen : (byteOf f.len).toNat = f.len := by
    simp only [byteOf, BitVec.toNat_ofNat, Frame.len]
    omega
  have hsync : s.character 0xA5#8 false = s.setReceiver (.frame none []) := by
    rw [State.character_of_hunt _ _ hr, if_pos ⟨rfl, rfl⟩]
  have hfix : (s.setReceiver (.frame none [])).character (byteOf f.len) false =
      s.setReceiver (.frame (some f.len) []) := by
    rw [State.character_of_len _ _ rfl, hlen, if_pos ⟨rfl, Nat.le_add_left _ _, Nat.add_le_add_right hf 2⟩]
    rfl
  rw [Frame.covered_eq, List.cons_append, runAll_characters_cons hlow, hsync,
    runAll_characters_cons (s := s.setReceiver (.frame none [])) hlow, hfix,
    runAll_characters_of_collecting (s := s.setReceiver (.frame (some f.len) [])) hlow rfl (Nat.zero_lt_succ _)
      (by simp [Frame.length_counted, length_bytes16]),
    List.nil_append, State.frameComplete_counted hr, ← Frame.covered_eq]

/-- Settles O5: the receiver by `State.character` in each of its states, a wrong CRC by `runAll_characters_of_frame`, and
the levels by `characterOf_levels`. -/
theorem receiverRules : Obligations.ReceiverRules := by
  refine ⟨fun s c framingError => ⟨fun hlow => ?_, fun hlow hr => ?_, fun bytes hlow hr => ?_,
    fun n bytes hlow hr he => ?_, fun n bytes hlow hr he hl => ?_, rfl⟩, fun s f c hlow hr hf hc => ?_, fun c stop => ?_⟩
  · exact congrArg Host.Outcome.next (if_pos hlow)
  · rw [exec_mrxCharacter hlow, State.character_of_hunt c framingError hr]
    rfl
  · rw [exec_mrxCharacter hlow, State.character_of_len c framingError hr, apply_ite s.setReceiver]
    rfl
  · rw [exec_mrxCharacter hlow, he, State.character_of_framingError c hr]
    rfl
  · rw [exec_mrxCharacter hlow, he, State.character_of_unfinished c hr hl]
    rfl
  · rw [runAll_characters_of_frame hlow hr hf, if_neg hc]
  · exact ⟨characterLevels_eq c, characterOf_levels c stop⟩

/-- Settles O4: the characters of a good frame offer it, which is what the request's command does. -/
theorem frameCharactersAreTheCommand : Obligations.FrameCharactersAreTheCommand := by
  intro s hlow hr
  have hframe (f : Frame) (hf : f.body.length ≤ 242) : runAll (characters f.bytes) s = .next (s.offerFrame f) := by
    rw [Frame.bytes, runAll_characters_of_frame hlow hr hf, if_pos rfl]
  refine ⟨hframe, fun i tag r hi hw => ?_⟩
  rw [hframe _ (Request.length_body_le hw), exec_of_request hi, State.hostRequest, if_neg (by simp [hlow])]

/-! ### Requests on a free line (R183, R185, R186) -/

/-- Settles O2, which is `exec_request_of_lineFree`. -/
theorem freeLineServesRequestAtOnce : Obligations.FreeLineServesRequestAtOnce :=
  fun _ _ _ _ hi hw hl => exec_request_of_lineFree hl hi hw

/-- The owner of a request that names a port turns away a byte that names none (R186). -/
theorem own_of_noPort {r : Request} {port : Byte} (h : namedPort r = some port) (hn : noPort port) (s : State) :
    own r s = (s, refuse .badPort) := by
  cases r with
  | getProfile | setAdmin | portRestart | getPort | clearFlags | setWatch | clearCounters | loadPages | clearPages
  | getPartnerPages | startTest | getResult =>
    obtain rfl := Option.some.inj h
    exact withPort_of_noPort hn s _
  | identify | restart | setProfile | cancelTest | getQueue | restoreEngine | readTrace | releaseTrace | fetchReports
  | getSummary => exact nomatch h

/-- Settles O10: the owner refuses, and the refusal leaves on the free line. -/
theorem badPortRefused : Obligations.BadPortRefused := by
  intro i tag r port s hi hw hp hn hl
  rw [exec_request_of_lineFree hl hi hw, own_of_noPort hp hn]
  rfl

/-! ### The inbox and the reply sender (R182 to R186) -/

section Offer

variable {s : State} (f : Frame)

/-- With a reply on the wire a frame that finds room waits. -/
theorem State.offerFrame_of_room {x : Reply} {m : Option RestartMode} (hs : s.sender = .sending x m)
    (h : s.inbox.length < 4) : s.offerFrame f = s.setInbox (s.inbox ++ [f]) := by
  simp only [offerFrame, if_pos h, serveIfIdle, setInbox_sender, hs]

/-- With a reply on the wire the first frame that finds no room is answered INBOX_FULL. -/
theorem State.offerFrame_of_full {x : Reply} {m : Option RestartMode} (hs : s.sender = .sending x m)
    (h : 4 ≤ s.inbox.length) (ho : s.overflow = none) :
    s.offerFrame f = s.setOverflow (some (replyTo f .inboxFull [])) := by
  simp only [offerFrame, if_neg (Nat.not_lt.mpr h), ho, serveIfIdle, setOverflow_sender, hs]

/-- Behind an overflow reply a frame that finds no room is discarded. -/
theorem State.offerFrame_of_overflow {y : Reply} (h : 4 ≤ s.inbox.length) (ho : s.overflow = some y) :
    s.offerFrame f = s := by
  simp only [offerFrame, if_neg (Nat.not_lt.mpr h), ho]

end Offer

section Dispatch

variable {s : State} {f : Frame}

theorem State.dispatch_of_request {r : Request} (h : parseRequest f.kind f.body = .request r) :
    s.dispatch f = (own r s).1.replied f.tag (replyKind f.kind) (own r s).2 := by
  simp only [dispatch, h]
  rfl

theorem State.dispatch_of_unknownKind (h : parseRequest f.kind f.body = .unknownKind) :
    s.dispatch f = s.setSender (.sending (replyTo f .unknownKind []) none) := by
  simp only [dispatch, h]

theorem State.dispatch_of_badLength (h : parseRequest f.kind f.body = .badLength) :
    s.dispatch f = s.setSender (.sending (replyTo f .badLength []) none) := by
  simp only [dispatch, h]

end Dispatch

/-- A reply that brings no restart leaves an IDLE sender, which serves what waits. -/
theorem exec_replySent {s : State} {x : Reply} (h : s.sender = .sending x none) :
    exec .replySent s = .next (s.setSender .idle).serve := by
  show Host.Outcome.next s.replySent = _
  simp only [State.replySent, h]

theorem State.serve_of_overflow {s : State} {y : Reply} (h : s.overflow = some y) :
    s.serve = (s.setOverflow none).setSender (.sending y none) := by
  simp only [serve, h]

theorem State.serve_of_cons {s : State} {f : Frame} {rest : List Frame} (ho : s.overflow = none)
    (hi : s.inbox = f :: rest) : s.serve = (s.setInbox rest).dispatch f := by
  simp only [serve, ho, hi]

theorem State.serve_of_nil {s : State} (ho : s.overflow = none) (hi : s.inbox = []) : s.serve = s := by
  simp only [serve, ho, hi]

/-- Settles O6: what becomes of an offered frame, and what the sender serves when it turns IDLE. -/
theorem inboxAndSender : Obligations.InboxAndSender := by
  refine ⟨fun i tag r s hi => ?_, fun s x hs => ⟨fun y ho => ?_, fun ho hin => ?_, fun f rest ho hin => ?_⟩⟩
  · rw [exec_of_request hi, State.hostRequest]
    refine ⟨fun hlow => by rw [if_pos hlow], fun x m hlow hs => ?_⟩
    rw [if_neg (by simp [hlow])]
    refine ⟨fun h => ?_, fun h ho => ?_, fun y h ho => ?_⟩
    · rw [State.offerFrame_of_room _ hs h]
      rfl
    · rw [State.offerFrame_of_full _ hs h ho]
      rfl
    · rw [State.offerFrame_of_overflow _ h ho]
  · rw [exec_replySent hs, State.serve_of_overflow (s := s.setSender .idle) ho]
    rfl
  · rw [exec_replySent hs, State.serve_of_nil (s := s.setSender .idle) ho hin]
    rfl
  · rw [exec_replySent hs, State.serve_of_cons (s := s.setSender .idle) ho hin]
    refine ⟨fun r hp => ?_, fun hp => ?_, fun hp => ?_⟩
    · rw [State.dispatch_of_request hp]
      rfl
    · rw [State.dispatch_of_unknownKind hp]
      rfl
    · rw [State.dispatch_of_badLength hp]
      rfl

end Machine
end Sys2Proof
end

section
/-! SUPPORT. The invariant of the management line: the line's own commands keep it, and every other command leaves the line
alone (R180, R182, R183, R189). -/

namespace Sys2Proof.Machine

/-! ### Arrivals, timers and engine events leave the line alone -/

theorem change_kept (s : State) (p : PortId) (f : Port → Port) (evs : List FlagEvent) :
    LineKept s (s.change p f evs) := by
  constructor <;> simp

theorem endTest_kept (s : State) (e : EngineId) (x : TestOutcome) (q : Quad PairRecord) :
    LineKept s (s.endTest e x q) := by
  constructor <;> simp

theorem finishPair_kept (s : State) (e : EngineId) (x : PairRecord) : LineKept s (s.finishPair e x) := by
  constructor <;> simp

theorem setEngine_kept (s : State) (e : EngineId) (x : Engine) : LineKept s (s.setEngine e x) := by
  constructor <;> rfl

theorem arrive_kept {s : State} {f : State → State} (h : LineKept s (f s)) : LineKept s (s.arrive f) := by
  unfold State.arrive
  split
  · exact .refl s
  · exact h.trans (settle_kept _)

theorem marginSample_kept (s : State) (p : PortId) (x : Nat) : LineKept s (s.marginSample p x) := by
  have hs : LineKept s (s.sampleChange p x) := change_kept s p _ _
  unfold State.marginSample
  split
  · unfold State.dropChange
    split
    · split
      · exact hs.trans (change_kept _ p _ _)
      · exact hs
    · exact hs
  · exact .refl s

theorem recheckExpired_kept (s : State) (p : PortId) : LineKept s (s.recheckExpired p) := by
  have hsubmit : LineKept s (s.submit p none) := by constructor <;> simp
  have hset {t : State} (h : LineKept s t) (x : Option Nat) : LineKept s (t.setRecheck p x).settle :=
    (h.trans (u := t.setRecheck p x) ⟨rfl, rfl, rfl, rfl, rfl, rfl, rfl⟩).trans (settle_kept _)
  unfold State.recheckExpired
  split
  · exact .refl s
  · refine hset ?_ _
    split
    · exact .refl s
    · exact hsubmit

theorem agingExpired_kept (s : State) (n : Nat) : LineKept s (s.agingExpired n) := by
  unfold State.agingExpired
  split
  · split
    · constructor <;> simp
    · exact .refl s
  · exact .refl s

theorem busPass_kept (s : State) (e : EngineId) : LineKept s (s.busPass e) := by
  unfold State.busPass
  dsimp only
  split
  · exact setEngine_kept s e _
  · exact .refl s

theorem busFail_kept (s : State) (e : EngineId) : LineKept s (s.busFail e) := by
  unfold State.busFail
  split
  · exact endTest_kept s e _ _
  · exact .refl s

theorem listenEnd_kept (s : State) (e : EngineId) (c : Quad (List Sample)) : LineKept s (s.listenEnd e c) := by
  unfold State.listenEnd
  dsimp only
  split
  · split
    · exact .refl s
    · split
      · exact setEngine_kept s e _
      · split
        · exact setEngine_kept s e _
        · exact (setEngine_kept s e _).trans (finishPair_kept _ e _)
  · exact .refl s

theorem listenWaitEnd_kept (s : State) (e : EngineId) : LineKept s (s.listenWaitEnd e) := by
  unfold State.listenWaitEnd
  dsimp only
  split
  · split
    · exact setEngine_kept s e _
    · exact .refl s
  · exact .refl s

theorem launch_kept (s : State) (e : EngineId) (c : Quad (List Sample)) : LineKept s (s.launch e c) := by
  unfold State.launch
  dsimp only
  split
  · exact setEngine_kept s e _
  · exact .refl s

theorem analysisDone_kept (s : State) (e : EngineId) : LineKept s (s.analysisDone e) := by
  unfold State.analysisDone
  dsimp only
  split
  · split
    · exact setEngine_kept s e _
    · exact (setEngine_kept s e _).trans (finishPair_kept _ e _)
  · exact .refl s

theorem releaseEnd_kept (s : State) (e : EngineId) :
    LineKept s (if (s.engine e).state = .release then s.releaseEnd e else s) := by
  split
  · constructor <;> simp
  · exact .refl s

/-! ### What the line's own operations leave -/

/-- RESET is high, at most four frames wait, an overflow reply only behind four, and the receiver collects what it could
be collecting: a sound line, but that something may wait behind an IDLE sender. -/
structure State.LineReady (s : State) : Prop where
  high : s.resetLow = false
  room : s.inbox.length ≤ 4
  overflow : s.overflow.isSome → s.inbox.length = 4
  receiver : s.receiver.sound

namespace State

variable {s : State}

/-- With RESET high a sound line is one that is ready and has nothing behind an IDLE sender. -/
theorem lineSound_iff (h : s.resetLow = false) :
    s.lineSound ↔ s.LineReady ∧ (s.sender = .idle → s.overflow = none ∧ s.inbox = []) := by
  constructor
  · rintro ⟨hroom, hover, hidle, -, hrec⟩
    exact ⟨⟨h, hroom, hover, hrec⟩, hidle⟩
  · rintro ⟨⟨-, hroom, hover, hrec⟩, hidle⟩
    exact ⟨hroom, hover, hidle, fun hlow => by simp [h] at hlow, hrec⟩

theorem lineSound.of_kept {t : State} (h : s.lineSound) (hk : LineKept s t) : t.lineSound := by
  obtain ⟨hlow, -, hrec, hin, hover, hsend, -⟩ := hk
  simpa only [lineSound, hlow, hrec, hin, hover, hsend] using h

namespace LineReady

/-- A ready line whose sender sends is sound. -/
theorem lineSound_of_sending (h : s.LineReady) {x : Reply} {m : Option RestartMode} (hs : s.sender = .sending x m) :
    s.lineSound := (lineSound_iff h.high).mpr ⟨h, fun hi => nomatch hs.symm.trans hi⟩

theorem of_kept {t : State} (h : s.LineReady) (hk : LineKept s t) : t.LineReady := by
  obtain ⟨hlow, -, hrec, hin, hover, -, -⟩ := hk
  obtain ⟨h1, h2, h3, h4⟩ := h
  constructor <;> simpa only [hlow, hrec, hin, hover]

theorem setReceiver (h : s.LineReady) {x : Receiver} (hx : x.sound) : (s.setReceiver x).LineReady :=
  ⟨h.high, h.room, h.overflow, hx⟩

/-- A dispatch leaves the line with the reply on the wire. -/
theorem dispatch (h : s.LineReady) (f : Frame) : (s.dispatch f).lineSound := by
  have hsend {t : State} (ht : t.LineReady) (x : Reply) (m : Option RestartMode) :
      (t.setSender (.sending x m)).lineSound :=
    lineSound_of_sending (s := t.setSender _) ⟨ht.high, ht.room, ht.overflow, ht.receiver⟩ rfl
  cases hp : parseRequest f.kind f.body with
  | unknownKind => exact dispatch_of_unknownKind hp ▸ hsend h _ _
  | badLength => exact dispatch_of_badLength hp ▸ hsend h _ _
  | request r => exact dispatch_of_request hp ▸ hsend (h.of_kept (own_kept r s)) _ _

/-- What an IDLE sender serves leaves a sound line. -/
theorem serve (h : s.LineReady) : s.serve.lineSound := by
  cases ho : s.overflow with
  | some y =>
    rw [serve_of_overflow ho]
    exact lineSound_of_sending (s := (s.setOverflow none).setSender _) ⟨h.high, h.room, nofun, h.receiver⟩ rfl
  | none =>
    cases hi : s.inbox with
    | cons f rest =>
      rw [serve_of_cons ho hi]
      have hroom : rest.length ≤ 4 := by
        have := h.room
        rw [hi, List.length_cons] at this
        omega
      exact dispatch (s := s.setInbox rest) ⟨h.high, hroom, by simp [ho], h.receiver⟩ f
    | nil =>
      rw [serve_of_nil ho hi]
      exact (lineSound_iff h.high).mpr ⟨h, fun _ => ⟨ho, hi⟩⟩

theorem serveIfIdle (h : s.LineReady) : s.serveIfIdle.lineSound := by
  unfold State.serveIfIdle
  split
  · exact h.serve
  · next hs => exact h.lineSound_of_sending hs

end LineReady

/-! ### The line's commands -/

/-- A good frame that is offered leaves a sound line (R182). -/
theorem lineSound.offerFrame (h : s.lineSound) (hlow : s.resetLow = false) (f : Frame) : (s.offerFrame f).lineSound := by
  obtain ⟨⟨-, hroom, hover, hrec⟩, -⟩ := (lineSound_iff hlow).mp h
  unfold State.offerFrame
  split
  · next hlt =>
    refine LineReady.serveIfIdle ⟨hlow, ?_, fun ho => ?_, hrec⟩
    · simpa using Nat.succ_le_of_lt hlt
    · exact absurd (hover ho) hlt.ne
  · next hge =>
    split
    · exact LineReady.serveIfIdle ⟨hlow, hroom, fun _ => Nat.le_antisymm hroom (Nat.le_of_not_lt hge), hrec⟩
    · exact h

theorem lineSound.hostRequest (h : s.lineSound) (tag : Byte) (r : Request) : (s.hostRequest tag r).lineSound := by
  unfold State.hostRequest
  split
  · exact h
  · next hlow => exact h.offerFrame (Bool.eq_false_of_not_eq_true hlow) _

theorem lineSound.setReceiver (h : s.lineSound) (hlow : s.resetLow = false) {x : Receiver} (hx : x.sound) :
    (s.setReceiver x).lineSound := by
  obtain ⟨hready, hidle⟩ := (lineSound_iff hlow).mp h
  exact (lineSound_iff (s := s.setReceiver x) hlow).mpr ⟨hready.setReceiver hx, hidle⟩

/-- Back to HUNT, which RESET low allows as well. -/
theorem lineSound.setReceiver_hunt (h : s.lineSound) : (s.setReceiver .hunt).lineSound := by
  obtain ⟨hroom, hover, hidle, hrest, -⟩ := h
  exact ⟨hroom, hover, hidle, fun hlow => ⟨(hrest hlow).1, rfl⟩, trivial⟩

/-- A character leaves the receiver with a frame that it could be collecting (R179 to R181). -/
theorem lineSound.character (h : s.lineSound) (hlow : s.resetLow = false) (c : Byte) (framingError : Bool) :
    (s.character c framingError).lineSound := by
  have hsound : s.receiver.sound := ((lineSound_iff hlow).mp h).1.receiver
  cases hr : s.receiver with
  | hunt =>
    rw [character_of_hunt c framingError hr]
    split
    · exact h.setReceiver hlow rfl
    · exact h
  | frame len bytes =>
    rw [hr] at hsound
    cases len with
    | none =>
      rw [character_of_len c framingError hr]
      split
      · next hc =>
        obtain ⟨-, hmin, hmax⟩ := hc
        exact h.setReceiver hlow ⟨hmin, hmax, Nat.zero_lt_succ _⟩
      · exact h.setReceiver_hunt
    | some n =>
      obtain ⟨hmin, hmax, -⟩ := hsound
      cases framingError with
      | true =>
        rw [character_of_framingError c hr]
        exact h.setReceiver_hunt
      | false =>
        by_cases hl : bytes.length + 1 < n + 2
        · rw [character_of_unfinished c hr hl]
          exact h.setReceiver hlow ⟨hmin, hmax, by simpa using hl⟩
        · rw [character_of_last c hr (Nat.le_of_not_lt hl)]
          unfold State.frameComplete
          dsimp only
          split
          · exact h.setReceiver_hunt.offerFrame hlow _
          · exact h.setReceiver_hunt

theorem coldStart_lineSound (s : State) (c : RestartCause) : (s.coldStart c).lineSound :=
  ⟨Nat.zero_le _, nofun, fun _ => ⟨rfl, rfl⟩, nofun, trivial⟩

theorem resetAssert_lineSound (s : State) : s.resetAssert.lineSound :=
  ⟨Nat.zero_le _, nofun, fun _ => ⟨rfl, rfl⟩, fun _ => ⟨rfl, rfl⟩, trivial⟩

theorem warmRestart_lineSound (s : State) : s.warmRestart.lineSound :=
  ⟨Nat.zero_le _, nofun, fun _ => ⟨rfl, rfl⟩, fun _ => ⟨rfl, rfl⟩, trivial⟩

/-- The end of a reply: the next item is served, or the restart that it brings (R183, R188). -/
theorem lineSound.replySent (h : s.lineSound) : s.replySent.lineSound := by
  unfold State.replySent
  split
  · exact h
  · next hs =>
    have hlow : s.resetLow = false := by
      obtain ⟨-, -, -, hrest, -⟩ := h
      by_contra hlow
      exact nomatch hs.symm.trans (hrest (Bool.eq_true_of_not_eq_false hlow)).1
    obtain ⟨⟨-, hroom, hover, hrec⟩, -⟩ := (lineSound_iff hlow).mp h
    exact LineReady.serve (s := s.setSender .idle) ⟨hlow, hroom, hover, hrec⟩
  · next m _ =>
    cases m with
    | cold => exact s.coldStart_lineSound _
    | warm => exact s.warmRestart_lineSound

/-! ### Every command -/

/-- Every command keeps the line sound. -/
theorem lineSound.exec (h : s.lineSound) (i : Instr) : ∃ t, exec i s = .next t ∧ t.lineSound := by
  cases i with
  | energyPresent p | energyAbsent p | partnerWord p w | trainingConverged p m map polarity | trainingFailed p
  | signalLost p => exact ⟨_, rfl, h.of_kept (arrive_kept (change_kept s p _ _))⟩
  | marginSample p x => exact ⟨_, rfl, h.of_kept (arrive_kept (marginSample_kept s p _))⟩
  | exchangeTimerExpiry p | trainingTimerExpiry p | holdoffWaitEnd p | energyAbsenceTimerExpiry p =>
    exact ⟨_, rfl, h.of_kept ((change_kept s p _ _).trans (settle_kept _))⟩
  | recheckTimerExpiry p => exact ⟨_, rfl, h.of_kept (recheckExpired_kept s p)⟩
  | agingClockExpiry n => exact ⟨_, rfl, h.of_kept (agingExpired_kept s n)⟩
  | busCheckPass e => exact ⟨_, rfl, h.of_kept (busPass_kept s e)⟩
  | busCheckFail e => exact ⟨_, rfl, h.of_kept (busFail_kept s e)⟩
  | listenAttemptEnd e c => exact ⟨_, rfl, h.of_kept (listenEnd_kept s e c)⟩
  | listenWaitEnd e => exact ⟨_, rfl, h.of_kept (listenWaitEnd_kept s e)⟩
  | launchCaptured e c => exact ⟨_, rfl, h.of_kept (launch_kept s e c)⟩
  | analysisDone e => exact ⟨_, rfl, h.of_kept (analysisDone_kept s e)⟩
  | releaseEnd e => exact ⟨_, rfl, h.of_kept (releaseEnd_kept s e)⟩
  | mrxCharacter c x =>
    refine ⟨_, rfl, ?_⟩
    split
    · exact h
    · next hlow => exact h.character (Bool.eq_false_of_not_eq_true hlow) c x
  | gapTimerExpiry => exact ⟨_, rfl, h.setReceiver_hunt⟩
  | replySent => exact ⟨_, rfl, h.replySent⟩
  | powerOn | resetRelease => exact ⟨_, rfl, s.coldStart_lineSound _⟩
  | resetAssert => exact ⟨_, rfl, s.resetAssert_lineSound⟩
  | _ => exact ⟨_, rfl, h.hostRequest _ _⟩

end State

/-- Settles O53: taking a command leaves the line alone, and executing it keeps the line sound (`State.lineSound.exec`). -/
theorem stepKeepsTheLine : Obligations.StepKeepsTheLine := by
  intro s t h hst
  unfold step at hst
  split at hst
  · next i rest _ =>
    have hq : (s.setPending rest).lineSound := h
    obtain ⟨u, hu, hs⟩ := hq.exec i
    obtain rfl : u = t := by simpa [hu] using hst
    exact hs
  · obtain rfl : s = t := by simpa using hst
    exact h

end Sys2Proof.Machine
end

section
/-! SUPPORT. The codes of enumerated fields, the condition word of two given bytes (R195), and the step (entry 18). -/

namespace Sys2Proof.Machine

/-! ### The bytes of a condition word, read and sent again (R195) -/

/-- A SPEED field that reads holds the code of what it reads as. -/
theorem ofNat_speedCode_of_speedOfField {x : BitVec 3} {c : Option Speed} (h : speedOfField x.toNat = some c) :
    BitVec.ofNat 3 (speedCode c) = x := by
  have hcode : ∀ x : BitVec 3, ∀ c ∈ speedOfField x.toNat, BitVec.ofNat 3 (speedCode c) = x := by decide
  exact hcode x c h

/-- A ROLE field that reads holds the code of what it reads as. -/
theorem ofNat_roleCode_of_roleOfField {x : BitVec 2} {c : Option Role} (h : roleOfField x.toNat = some c) :
    BitVec.ofNat 2 (roleCode c) = x := by
  have hcode : ∀ x : BitVec 2, ∀ c ∈ roleOfField x.toNat, BitVec.ofNat 2 (roleCode c) = x := by decide
  exact hcode x c h

/-- Every PAIRMAP field holds the code of what it reads as. -/
theorem PairMap.ofNat_code_ofCode : ∀ x : BitVec 2, BitVec.ofNat 2 (PairMap.ofCode x.toNat).code = x := by
  decide

/-- The nine fields of a condition word, one after the other, are the whole of its two bytes. -/
theorem append_wordFields (x : Word) :
    bit (x.getLsbD 15) ++ x.extractLsb' 12 3 ++ x.extractLsb' 10 2 ++ x.extractLsb' 8 2 ++ x.extractLsb' 4 4 ++
      bit (x.getLsbD 3) ++ bit (x.getLsbD 2) ++ bit (x.getLsbD 1) ++ bit (x.getLsbD 0) = x := by
  have hbit : ∀ i, bit (x.getLsbD i) = x.extractLsb' i 1 := fun i => by
    refine BitVec.eq_of_getLsbD_eq fun j hj => ?_
    obtain rfl : j = 0 := by omega
    simp [bit]
  simp only [hbit]
  repeat rw [BitVec.extractLsb'_append_extractLsb'_eq_extractLsb' (by rfl)]
  exact BitVec.extractLsb'_eq_self

/-- Two bytes that read as a condition word are what that word is sent as. -/
theorem encodeWord_of_decodeWord {x : Word} {w : CondWord} (h : decodeWord x = some w) : encodeWord w = x := by
  unfold decodeWord at h
  split at h
  · next speed role hspeed hrole =>
    obtain rfl := Option.some.inj h
    rw [encodeWord, ofNat_speedCode_of_speedOfField hspeed, ofNat_roleCode_of_roleOfField hrole,
      PairMap.ofNat_code_ofCode, append_wordFields]
  · exact nomatch h

/-- Settles O9: the codes value by value, the fields by `encodeWord_codes` and `encodeWord_flags`, the round trips by
`decodeWord_encodeWord` and `encodeWord_of_decodeWord`. -/
theorem conditionWordReadsBack : Obligations.ConditionWordReadsBack := by
  refine ⟨?_, ?_, ?_, ?_, ?_, ?_, ?_, ?_, ?_, ?_, ?_, ?_, ?_, ?_, ?_, ?_, ?_, ?_, ?_, fun _ => rfl,
    fun _ _ _ _ => rfl, rfl, rfl, fun x c => ⟨?speedPlace, rfl⟩, fun x k => ⟨?kindPlace, rfl⟩, fun w => ?fields,
    decodeWord_encodeWord, fun _ _ => encodeWord_of_decodeWord, decodeWord_eq_none_iff⟩
  case speedPlace => cases c <;> rfl
  case kindPlace => cases k <;> rfl
  case fields =>
    obtain ⟨hspeed, hrole, hmap, hpolarity⟩ := encodeWord_codes w
    obtain ⟨hlink, henergy, hmargin, hstalled, htesting⟩ := encodeWord_flags w
    refine ⟨hlink, hspeed.trans ?_, hrole.trans ?_, hmap.trans ?_, hpolarity, henergy, hmargin, hstalled, htesting⟩
    · rcases w.speed with _ | _ | _ <;> rfl
    · rcases w.role with _ | _ | _ <;> rfl
    · cases w.pairMap <;> rfl
  all_goals
    intro x
    cases x <;> decide

/-! ### The step -/

/-- A step on a queue with `c` at the front executes `c` with the rest of that queue. -/
theorem step_of_pending {s : State} {c : Instr} {rest : List Instr} (h : s.pending = c :: rest) :
    step s = exec c (s.setPending rest) := by
  rw [step, h]

/-- Settles O1 by `step_of_pending`: with `c` taken off, the queue is the one that `s` has. -/
theorem stepTakesFrontCommand : Obligations.StepTakesFrontCommand :=
  fun _ _ => step_of_pending rfl

end Sys2Proof.Machine
end
